-- ==== Sys2Proof/Word.lean ====
section
/-! DEFINITION. The widths of the CRISP-8 core (00_scope.md R5, R12): every value is unsigned. -/

namespace Sys2Proof

/-- A register index or a 4-bit immediate (30_encoding.md R72: X, Y, N). -/
abbrev Nibble := BitVec 4

/-- A byte: a general register, a timer, a memory cell or an 8-bit immediate NN (R72). -/
abbrev Byte := BitVec 8

/-- A 12-bit address literal NNN (R72). -/
abbrev Addr := BitVec 12

/-- A 16-bit value: an instruction word, PC, I, a stack entry or a keypad snapshot. -/
abbrev Word := BitVec 16

end Sys2Proof
end

