-- ==== Sys2Proof/Config.lean ====
section
/-! DEFINITION. What an implementation fixes (00_scope.md R5, R6) and the free values of the host's inputs. -/

namespace Sys2Proof

/-- MEM_SIZE: addresses 0x000..0xFFF (R5). -/
def Config.memSize : Nat := 4096

/-- PROGRAM_BASE, where a ROM is loaded and where PC starts (R5). -/
def Config.programBase : Nat := 0x200

/-- MAX_ROM, 4096 - 0x200 bytes (R5). -/
def Config.maxRom : Nat := 3584

/-- STACK_DEPTH (R5). -/
def Config.stackDepth : Nat := 16

/-- The number of font bytes: 16 glyphs of 5 bytes (R5). -/
def Config.fontSize : Nat := 80

/-- SYS_MODE (R6, D3). -/
inductive SysMode where
  | ignore
  | fault
deriving DecidableEq, Repr

/-- SHIFT_SRC (R6, D6). -/
inductive ShiftSrc where
  | vx
  | vy
deriving DecidableEq, Repr

/-- LDST_I_MODE (R6, D7). -/
inductive LdstIMode where
  | unchanged
  | plusXPlus1
  | plusX
deriving DecidableEq, Repr

/-- JUMP_OFFSET_REG (R6, D8). -/
inductive JumpOffsetReg where
  | v0
  | vx
deriving DecidableEq, Repr

/-- LOGIC_VF_MODE (R6, D11). -/
inductive LogicVfMode where
  | clear
  | preserve
deriving DecidableEq, Repr

/-- RESERVED_WRITE (R6, D14). -/
inductive ReservedWrite where
  | fault
  | allow
deriving DecidableEq, Repr

/-- The implementation parameters of R6, an argument of the whole model (log entry 1).
STEP_LATENCY is timing, no rule depends on it (R274), and it is not here (log entry 10). -/
structure Params where
  /-- FONT_BASE, an address with FONT_BASE + 80 ≤ 0x200 (R6): 0 to 432. -/
  fontBase : Fin 433
  sysMode : SysMode
  shiftSrc : ShiftSrc
  ldstIMode : LdstIMode
  jumpOffsetReg : JumpOffsetReg
  logicVfMode : LogicVfMode
  reservedWrite : ReservedWrite
deriving DecidableEq, Repr

/-- The default of every parameter (the table of R6). -/
def Params.default : Params where
  fontBase := 0x050
  sysMode := .ignore
  shiftSrc := .vx
  ldstIMode := .unchanged
  jumpOffsetReg := .v0
  logicVfMode := .clear
  reservedWrite := .fault

/-- FREE VALUE (log entry 3): the keypad snapshot of the n-th STEP whose inputs no pending command gives.
The host may press any keys between two STEPs (70_reset_and_hazards.md R273). -/
opaque Config.freeKeys : Nat → Word

/-- FREE VALUE (log entry 3): the random byte of the n-th STEP whose inputs no pending command gives.
Any value 0..255 may occur (46_random.md R200). -/
opaque Config.freeRand : Nat → Byte

end Sys2Proof
end

