-- ==== Sys2Proof/Machine/State.lean ====
section
/-! DEFINITION. The state of the CRISP-8 core (10_state.md), as plain data, and its power-on value (R40). -/

namespace Sys2Proof.Machine

/-- The values of fault_code (10_state.md R36). The numbers 6..255 are never produced, so they have no name. -/
inductive FaultCode where
  | none
  | unknownOpcode
  | stackOverflow
  | stackUnderflow
  | outOfSpace
  | addressError
deriving DecidableEq, Repr

/-- The commands of the host (00_scope.md R7) with the inputs each takes (R8). -/
inductive HostCommand where
  /-- The state is created again (70_reset_and_hazards.md R260). -/
  | powerOn
  /-- One fetch-decode-execute cycle or one poll of the key-wait latch (40_cycle.md R90), with its sampled inputs. -/
  | step (keys : Word) (rand : Byte)
  /-- Decrement both timers (60_exceptions.md R240). -/
  | tick
  /-- Restore the reset state (R261). -/
  | reset
  /-- Load a ROM (R262, R263). -/
  | load (rom : List Byte)
deriving DecidableEq, Repr

/-- Memory as (address, byte) pairs in canonical form: addresses strictly rising and below 4096, and no byte equal to what
an unlisted address reads as, which is its power-on content (20_memory.md R50, 10_state.md R40). -/
abbrev Memory := List Host.Cell

/-- Reasons for which the model itself stops with a fault: there are none. Every fault of the spec (60_exceptions.md R230)
is taken as a next state that holds the fault record (R231) and is halted (R232), so no step ends here and none is unsafe. -/
inductive Fault where
deriving DecidableEq, Repr

/-- Reasons for which the model refuses an instruction. -/
inductive Refusal where
  /-- Raised only by an arm of exec for an instruction without a meaning; no arm does so in this model.
  Safe: the model would stop where the hardware goes on. -/
  | notModelled (mnemonic : String)
deriving DecidableEq, Repr

/-- The state. The fields down to `mem` are the spec's (R40); `cfg` is the model's argument (R6); the rest are the
input ports and the model's own bookkeeping (log entries 2, 3 and 4). -/
structure State where
  /-- V0..VF (R20) -/
  v : Vector Byte 16
  /-- the index register I (R23) -/
  i : Word
  /-- the program counter PC (R25) -/
  pc : Word
  /-- the call stack (R27) -/
  stack : Vector Word 16
  /-- the stack depth SP, 0..16 (R27) -/
  sp : Fin 17
  /-- the delay timer DT (R29) -/
  dt : Byte
  /-- the sound timer ST (R30) -/
  st : Byte
  /-- the frame buffer: bit x of row y is pixel (x, y) (R31) -/
  fb : Vector (BitVec 64) 32
  /-- await, the key-wait latch (R34) -/
  awaiting : Bool
  /-- await_x, the X of the waiting FX0A (R34) -/
  awaitX : Nibble
  /-- key_base, the snapshot of the previous STEP of the wait (R34) -/
  keyBase : Word
  /-- display_changed (R35) -/
  displayChanged : Bool
  /-- fault_code (R36) -/
  faultCode : FaultCode
  /-- fault_pc (R37) -/
  faultPc : Word
  /-- fault_word (R37) -/
  faultWord : Word
  /-- the 4096 bytes of memory (20_memory.md R50) -/
  mem : Memory
  /-- the implementation parameters (R6); no command changes them -/
  cfg : Params
  /-- the input port keys as the current STEP samples it (R8, R91) -/
  keys : Word
  /-- the input port rand_byte of the current STEP (R8, R200) -/
  rand : Byte
  /-- what the last command reported: none is OK (R100) -/
  report : FaultCode
  /-- the commands the host issues next, oldest first (R7, R241) -/
  pending : List HostCommand
  /-- how many free input draws the host's unlisted STEPs have taken -/
  draws : Nat
deriving DecidableEq, Repr

/-- The state that POWER_ON creates (R40, R260), with the parameters at their defaults (R6).
RESET after it changes nothing (R261). Memory lists nothing: every byte has its power-on content. -/
def State.reset : State where
  v := Vector.replicate 16 0
  i := 0x0000
  pc := 0x0200
  stack := Vector.replicate 16 0
  sp := 0
  dt := 0
  st := 0
  fb := Vector.replicate 32 0
  awaiting := false
  awaitX := 0
  keyBase := 0x0000
  displayChanged := false
  faultCode := .none
  faultPc := 0x0000
  faultWord := 0x0000
  mem := []
  cfg := Params.default
  keys := 0x0000
  rand := 0
  report := .none
  pending := []
  draws := 0

end Sys2Proof.Machine
end

