-- ==== Sys2Proof/Machine/Font.lean ====
section
/-! DEFINITION. The font table and what memory holds from POWER_ON (20_memory.md R56, R58; 10_state.md R40). -/

namespace Sys2Proof.Machine

/-- The five row bytes of a hex digit's glyph (the table of R58; general knowledge, log entry 6). -/
def fontGlyph : Nat → List Byte
  | 0x0 => [0xF0, 0x90, 0x90, 0x90, 0xF0]
  | 0x1 => [0x20, 0x60, 0x20, 0x20, 0x70]
  | 0x2 => [0xF0, 0x10, 0xF0, 0x80, 0xF0]
  | 0x3 => [0xF0, 0x10, 0xF0, 0x10, 0xF0]
  | 0x4 => [0x90, 0x90, 0xF0, 0x10, 0x10]
  | 0x5 => [0xF0, 0x80, 0xF0, 0x10, 0xF0]
  | 0x6 => [0xF0, 0x80, 0xF0, 0x90, 0xF0]
  | 0x7 => [0xF0, 0x10, 0x20, 0x40, 0x40]
  | 0x8 => [0xF0, 0x90, 0xF0, 0x90, 0xF0]
  | 0x9 => [0xF0, 0x90, 0xF0, 0x10, 0xF0]
  | 0xA => [0xF0, 0x90, 0xF0, 0x90, 0x90]
  | 0xB => [0xE0, 0x90, 0xE0, 0x90, 0xE0]
  | 0xC => [0xF0, 0x80, 0x80, 0x80, 0xF0]
  | 0xD => [0xE0, 0x90, 0x90, 0x90, 0xE0]
  | 0xE => [0xF0, 0x80, 0xF0, 0x80, 0xF0]
  | 0xF => [0xF0, 0x80, 0xF0, 0x80, 0x80]
  | _ => []

/-- Row r of the glyph of hex digit d (R58). -/
def fontByte (d r : Nat) : Byte := (fontGlyph d).getD r 0

/-- What address a holds from POWER_ON: mem[FONT_BASE + 5*d + r] is row r of digit d, and every other byte is 0x00 (R40, R58). -/
def powerOnByte (fontBase : Fin 433) (a : Nat) : Byte :=
  if fontBase.val ≤ a ∧ a < fontBase.val + Config.fontSize then
    fontByte ((a - fontBase.val) / 5) ((a - fontBase.val) % 5)
  else 0

end Sys2Proof.Machine
end

