-- ==== Sys2Proof/Machine/Ops.lean ====
section
/-! DEFINITION. The named operations over memory, registers, the stack and the program counter, and raising a fault. -/

namespace Sys2Proof.Machine

/-! ### Memory (20_memory.md) -/

/-- The byte at an address: the listed one, or the power-on content of an unlisted address. -/
def Memory.read (fontBase : Fin 433) : Memory → Nat → Byte
  | [], a => powerOnByte fontBase a
  | (a', b) :: rest, a => if a = a' then b else Memory.read fontBase rest a

/-- List an address with a byte, in address order. -/
def Memory.put : Memory → Nat → Byte → Memory
  | [], a, b => [(a, b)]
  | (a', b') :: rest, a, b =>
    if a < a' then (a, b) :: (a', b') :: rest
    else if a = a' then (a, b) :: rest
    else (a', b') :: Memory.put rest a b

/-- Unlist an address. -/
def Memory.drop : Memory → Nat → Memory
  | [], _ => []
  | (a', b') :: rest, a => if a = a' then rest else (a', b') :: Memory.drop rest a

/-- Write a byte, keeping the canonical form: a byte equal to the power-on content is not listed. -/
def Memory.write (fontBase : Fin 433) (m : Memory) (a : Nat) (b : Byte) : Memory :=
  if b = powerOnByte fontBase a then Memory.drop m a else Memory.put m a b

/-- Every listed address is at least lo and below 4096, the addresses rise strictly, and no listed byte is the power-on content. -/
def Memory.wfFrom (fontBase : Fin 433) : Nat → Memory → Bool
  | _, [] => true
  | lo, (a, b) :: rest =>
    decide (lo ≤ a) && decide (a < Config.memSize) && (b != powerOnByte fontBase a) && Memory.wfFrom fontBase (a + 1) rest

/-- The canonical form of memory. -/
def Memory.wf (fontBase : Fin 433) (m : Memory) : Bool := Memory.wfFrom fontBase 0 m

/-- MemRead(a, 1) (00_scope.md R12). -/
def State.readByte (s : State) (a : Nat) : Byte := Memory.read s.cfg.fontBase s.mem a

/-- MemWrite(a, 1, b) (00_scope.md R12). -/
def State.writeByte (s : State) (a : Nat) (b : Byte) : State :=
  { s with mem := Memory.write s.cfg.fontBase s.mem a b }

/-- CheckAccess (44_memory_index.md R159): true when the access raises ADDRESS_ERROR. The sum is on naturals (R12, R53). -/
def State.accessFaults (s : State) (a : Word) (n : Nat) (isWrite : Bool) : Bool :=
  decide (a.toNat + n - 1 > 0xFFF) ||
    (isWrite && decide (s.cfg.reservedWrite = .fault) && decide (a.toNat < Config.programBase))

/-! ### General registers (10_state.md R20) -/

/-- V[x]. -/
def State.getV (s : State) (x : Nibble) : Byte := s.v[x.toNat]

/-- V[x] <- b. -/
def State.setV (s : State) (x : Nibble) (b : Byte) : State := { s with v := s.v.set x.toNat b }

/-- V[x] <- b, then VF <- flag: the result first and the flag second (00_scope.md R13). -/
def State.setVFlag (s : State) (x : Nibble) (b : Byte) (flag : Byte) : State := (s.setV x b).setV 0xF flag

/-! ### The index register and the program counter -/

/-- I <- w. -/
def State.setI (s : State) (w : Word) : State := { s with i := w }

/-- PC <- target. -/
def State.setPc (s : State) (target : Word) : State := { s with pc := target }

/-- PC <- PC + 2, mod 2^16 (10_state.md R26). -/
def State.next (s : State) : State := s.setPc (s.pc + 2)

/-- PC <- PC + 4 when the condition of a skip holds, else PC + 2 (R26, 41_flow_control.md R119). -/
def State.skipIf (s : State) (c : Bool) : State := s.setPc (s.pc + bif c then 4 else 2)

/-! ### The call stack (10_state.md R27, R28) -/

/-- stack[SP] <- w; SP <- SP + 1. None when SP = 16. -/
def State.push (s : State) (w : Word) : Option State :=
  if h : s.sp.val < 16 then
    some { s with stack := s.stack.set s.sp.val w, sp := ⟨s.sp.val + 1, Nat.succ_lt_succ h⟩ }
  else none

/-- SP <- SP - 1, and stack[SP] with the state that follows. None when SP = 0. The popped slot keeps its value (R28). -/
def State.pop (s : State) : Option (Word × State) :=
  if h : 0 < s.sp.val then
    some (s.stack[s.sp.val - 1]'(Nat.lt_of_lt_of_le (Nat.sub_lt h Nat.one_pos) (Nat.le_of_lt_succ s.sp.isLt)),
      { s with sp := ⟨s.sp.val - 1, Nat.lt_of_le_of_lt (Nat.sub_le _ _) s.sp.isLt⟩ })
  else none

/-! ### Faults (60_exceptions.md) -/

/-- raise Fault(code, word) (R231): the fault record is written, PC stays, and the command reports the code (R100). -/
def State.raise (s : State) (code : FaultCode) (word : Word) : State :=
  { s with faultCode := code, faultPc := s.pc, faultWord := word, report := code }

/-- The core is halted while fault_code is not NONE (R232). -/
def State.halted (s : State) : Bool := s.faultCode != .none

/-! ### The start of a command -/

/-- What every command does first: display_changed <- 0 (10_state.md R35, 45_display.md R187), and it has reported no fault yet (R100). -/
def State.begin (s : State) : State := { s with displayChanged := false, report := .none }

/-- The inputs a STEP samples at its start and keeps for the whole STEP (40_cycle.md R91). -/
def State.sample (s : State) (keys : Word) (rand : Byte) : State := { s with keys := keys, rand := rand }

end Sys2Proof.Machine
end

