-- ==== Sys2Proof/Machine/Commands.lean ====
section
/-! DEFINITION. The host's commands other than STEP: TICK (60_exceptions.md R240), POWER_ON, RESET and LOAD (70_reset_and_hazards.md R260-R263). -/

namespace Sys2Proof.Machine

/-- A counter decremented while above 0 (10_state.md R29, R30). -/
def countDown (b : Byte) : Byte := if b.toNat > 0 then b - 1 else b

/-- TICK (60_exceptions.md R240): nothing but display_changed <- 0 while halted. -/
def State.tick (s : State) : State :=
  let s := s.begin
  if s.halted then s else { s with dt := countDown s.dt, st := countDown s.st }

/-- RESET (R261): the RESET column of 10_state.md R40. Memory stays as it is. -/
def State.resetCommand (s : State) : State :=
  { s.begin with
    v := Vector.replicate 16 0, i := 0x0000, pc := 0x0200,
    stack := Vector.replicate 16 0, sp := 0, dt := 0, st := 0, fb := Vector.replicate 32 0,
    awaiting := false, awaitX := 0, keyBase := 0x0000,
    faultCode := .none, faultPc := 0x0000, faultWord := 0x0000 }

/-- POWER_ON (R260): the POWER_ON column of R40, which is RESET's with memory at its power-on content. -/
def State.powerOnCommand (s : State) : State := { s.resetCommand with mem := [] }

/-- mem[a + j] <- bytes[j] for every j. The addresses differ, so the order of the writes is not seen (20_memory.md R61). -/
def State.writeBytes (s : State) (a : Nat) : List Byte → State
  | [] => s
  | b :: rest => (State.writeBytes s (a + 1) rest).writeByte a b

/-- LOAD(rom) (R262, R263): power-on and then the copy to 0x200, or OUT_OF_SPACE with fault_word 0 when the ROM is longer than 3584 bytes. -/
def State.loadCommand (s : State) (rom : List Byte) : State :=
  if rom.length ≤ Config.maxRom then s.powerOnCommand.writeBytes Config.programBase rom
  else s.begin.raise .outOfSpace 0x0000

end Sys2Proof.Machine
end

