-- ==== Sys2Proof/Machine/Flags.lean ====
section
/-! DEFINITION. The flag values that go to VF (10_state.md R21). -/

namespace Sys2Proof.Machine

/-- A condition as a flag value, 1 or 0. -/
def flagByte (c : Bool) : Byte := bif c then 1 else 0

/-- The carry of an addition: 1 when the exact sum is above 255 (42_alu.md R135). -/
def carryFlag (a b : Byte) : Byte := flagByte (decide (a.toNat + b.toNat > 255))

/-- The flag of a subtraction a - b: 1 when there is no borrow, equality included (R136, R138). -/
def noBorrowFlag (a b : Byte) : Byte := flagByte (decide (a.toNat ≥ b.toNat))

/-- The bit a right shift by one moves out: bit 0 (R137). -/
def shiftedOutRight (src : Byte) : Byte := flagByte (src.getLsbD 0)

/-- The bit a left shift by one moves out: bit 7 (R139). -/
def shiftedOutLeft (src : Byte) : Byte := flagByte (src.getLsbD 7)

/-- VF after OR, AND and XOR: 0 under LOGIC_VF_MODE = CLEAR, unchanged under PRESERVE (R131).
It is applied after the result is written, so VF = X ends as the flag says (R13). -/
def State.logicFlag (s : State) : State :=
  match s.cfg.logicVfMode with
  | .clear => s.setV 0xF 0
  | .preserve => s

end Sys2Proof.Machine
end

