-- ==== Sys2Proof/Machine/Operands.lean ====
section
/-! DEFINITION. The operand forms whose value depends on a parameter or on part of a register. -/

namespace Sys2Proof.Machine

/-- The source of a shift: V[X] or V[Y], by SHIFT_SRC (42_alu.md R137, R139). -/
def State.shiftSource (s : State) (x y : Nibble) : Byte :=
  match s.cfg.shiftSrc with
  | .vx => s.getV x
  | .vy => s.getV y

/-- w[11:8] of a BNNN word, from its NNN (30_encoding.md R82). -/
def offsetField (nnn : Addr) : Nibble := nnn.extractLsb' 8 4

/-- The offset register of BNNN: V0, or V[w[11:8]], by JUMP_OFFSET_REG (41_flow_control.md R118). -/
def State.jumpOffset (s : State) (nnn : Addr) : Byte :=
  match s.cfg.jumpOffsetReg with
  | .v0 => s.getV 0x0
  | .vx => s.getV (offsetField nnn)

/-- b[3:0]: a register's value as a key or glyph index (44_memory_index.md R162, 47_keypad.md R205). -/
def lowNibble (b : Byte) : Nibble := b.extractLsb' 0 4

/-- k[V[X][3:0]]: whether the key that V[x] names is down in the sampled snapshot (R205, R206). -/
def State.keyDown (s : State) (x : Nibble) : Bool := s.keys.getLsbD (lowNibble (s.getV x)).toNat

/-- FONT_BASE + 5 * V[X][3:0] (R162). -/
def State.glyphAddress (s : State) (x : Nibble) : Word :=
  BitVec.ofNat 16 (s.cfg.fontBase.val + 5 * (lowNibble (s.getV x)).toNat)

/-- The I that FX55 and FX65 leave, on naturals, by LDST_I_MODE (R164, R165). -/
def State.advancedI (s : State) (x : Nibble) : Nat :=
  match s.cfg.ldstIMode with
  | .unchanged => s.i.toNat
  | .plusXPlus1 => s.i.toNat + x.toNat + 1
  | .plusX => s.i.toNat + x.toNat

/-- The least key index whose bit is set, none when no bit is set (40_cycle.md R94). -/
def leastKey (new : Word) : Option Nat := (List.range 16).find? fun j => new.getLsbD j

end Sys2Proof.Machine
end

