-- ==== Sys2Proof/Machine/Alu.lean ====
section
/-! DEFINITION. Register arithmetic and logic (42_alu.md R130-R139). None can fault, and each sets PC <- PC + 2. -/

namespace Sys2Proof.Machine

/-- LD VX, VY (R130). -/
def execLdReg (x y : Nibble) (s : State) : Host.Outcome State Fault Refusal :=
  .next (s.setV x (s.getV y)).next

/-- OR VX, VY (R131). -/
def execOrReg (x y : Nibble) (s : State) : Host.Outcome State Fault Refusal :=
  .next (s.setV x (s.getV x ||| s.getV y)).logicFlag.next

/-- AND VX, VY (R132). -/
def execAndReg (x y : Nibble) (s : State) : Host.Outcome State Fault Refusal :=
  .next (s.setV x (s.getV x &&& s.getV y)).logicFlag.next

/-- XOR VX, VY (R133). -/
def execXorReg (x y : Nibble) (s : State) : Host.Outcome State Fault Refusal :=
  .next (s.setV x (s.getV x ^^^ s.getV y)).logicFlag.next

/-- ADD VX, VY (R135). -/
def execAddReg (x y : Nibble) (s : State) : Host.Outcome State Fault Refusal :=
  let a := s.getV x
  let b := s.getV y
  .next (s.setVFlag x (a + b) (carryFlag a b)).next

/-- SUB VX, VY (R136): VX minus VY. -/
def execSubReg (x y : Nibble) (s : State) : Host.Outcome State Fault Refusal :=
  let a := s.getV x
  let b := s.getV y
  .next (s.setVFlag x (a - b) (noBorrowFlag a b)).next

/-- SHR VX, VY (R137). -/
def execShr (x y : Nibble) (s : State) : Host.Outcome State Fault Refusal :=
  let src := s.shiftSource x y
  .next (s.setVFlag x (src >>> 1) (shiftedOutRight src)).next

/-- SUBN VX, VY (R138): VY minus VX. -/
def execSubn (x y : Nibble) (s : State) : Host.Outcome State Fault Refusal :=
  let a := s.getV x
  let b := s.getV y
  .next (s.setVFlag x (b - a) (noBorrowFlag b a)).next

/-- SHL VX, VY (R139). -/
def execShl (x y : Nibble) (s : State) : Host.Outcome State Fault Refusal :=
  let src := s.shiftSource x y
  .next (s.setVFlag x (src <<< 1) (shiftedOutLeft src)).next

end Sys2Proof.Machine
end

