-- ==== Sys2Proof/Syntax.lean ====
section
/-! DEFINITION. The 35 instruction forms (30_encoding.md R77), one constructor per row of spec/opcode_table.json, in its order. -/

namespace Sys2Proof

/-- A decoded instruction with the fields its format uses (30_encoding.md R73).
JP V0, NNN keeps all 12 bits of NNN; the X of JUMP_OFFSET_REG = VX is NNN[11:8] (R82). -/
inductive Instr where
  /-- 0NNN SYS (R110) -/
  | sys (nnn : Addr)
  /-- 00E0 CLS (R180) -/
  | cls
  /-- 00EE RET (R113) -/
  | ret
  /-- 1NNN JP NNN (R111) -/
  | jp (nnn : Addr)
  /-- 2NNN CALL NNN (R112) -/
  | call (nnn : Addr)
  /-- 3XNN SE VX, NN (R114) -/
  | seImm (x : Nibble) (nn : Byte)
  /-- 4XNN SNE VX, NN (R115) -/
  | sneImm (x : Nibble) (nn : Byte)
  /-- 5XY0 SE VX, VY (R116) -/
  | seReg (x y : Nibble)
  /-- 6XNN LD VX, NN (R150) -/
  | ldImm (x : Nibble) (nn : Byte)
  /-- 7XNN ADD VX, NN (R151) -/
  | addImm (x : Nibble) (nn : Byte)
  /-- 8XY0 LD VX, VY (R130) -/
  | ldReg (x y : Nibble)
  /-- 8XY1 OR VX, VY (R131) -/
  | orReg (x y : Nibble)
  /-- 8XY2 AND VX, VY (R132) -/
  | andReg (x y : Nibble)
  /-- 8XY3 XOR VX, VY (R133) -/
  | xorReg (x y : Nibble)
  /-- 8XY4 ADD VX, VY (R135) -/
  | addReg (x y : Nibble)
  /-- 8XY5 SUB VX, VY (R136) -/
  | subReg (x y : Nibble)
  /-- 8XY6 SHR VX, VY (R137) -/
  | shr (x y : Nibble)
  /-- 8XY7 SUBN VX, VY (R138) -/
  | subn (x y : Nibble)
  /-- 8XYE SHL VX, VY (R139) -/
  | shl (x y : Nibble)
  /-- 9XY0 SNE VX, VY (R117) -/
  | sneReg (x y : Nibble)
  /-- ANNN LD I, NNN (R160) -/
  | ldI (nnn : Addr)
  /-- BNNN JP V0, NNN (R118) -/
  | jpOffset (nnn : Addr)
  /-- CXNN RND VX, NN (R201) -/
  | rnd (x : Nibble) (nn : Byte)
  /-- DXYN DRW VX, VY, N (R181) -/
  | drw (x y n : Nibble)
  /-- EX9E SKP VX (R205) -/
  | skp (x : Nibble)
  /-- EXA1 SKNP VX (R206) -/
  | sknp (x : Nibble)
  /-- FX07 LD VX, DT (R220) -/
  | ldVxDt (x : Nibble)
  /-- FX0A LD VX, K (R207) -/
  | ldVxK (x : Nibble)
  /-- FX15 LD DT, VX (R221) -/
  | ldDtVx (x : Nibble)
  /-- FX18 LD ST, VX (R222) -/
  | ldStVx (x : Nibble)
  /-- FX1E ADD I, VX (R161) -/
  | addI (x : Nibble)
  /-- FX29 LD F, VX (R162) -/
  | ldF (x : Nibble)
  /-- FX33 LD B, VX (R163) -/
  | ldB (x : Nibble)
  /-- FX55 LD [I], VX (R164) -/
  | storeRegs (x : Nibble)
  /-- FX65 LD VX, [I] (R165) -/
  | loadRegs (x : Nibble)
deriving DecidableEq, Repr

end Sys2Proof
end

