-- ==== Sys2Proof/Decode.lean ====
section
/-! DEFINITION. The decoder, total on all 65,536 words (30_encoding.md R76), and the encoder written from the same map (R77). -/

namespace Sys2Proof

/-- What `decode(w)` answers: one of the 35 forms with its fields, or Unknown(w) (R76). -/
inductive Decoded where
  | instr (i : Instr)
  | unknown (w : Word)
deriving DecidableEq, Repr

/-- op = w[15:12] (R72). -/
def fieldOp (w : Word) : Nibble := w.extractLsb' 12 4

/-- X = w[11:8] (R72). -/
def fieldX (w : Word) : Nibble := w.extractLsb' 8 4

/-- Y = w[7:4] (R72). -/
def fieldY (w : Word) : Nibble := w.extractLsb' 4 4

/-- N = w[3:0] (R72). -/
def fieldN (w : Word) : Nibble := w.extractLsb' 0 4

/-- NN = w[7:0] (R72). -/
def fieldNN (w : Word) : Byte := w.extractLsb' 0 8

/-- NNN = w[11:0] (R72). -/
def fieldNNN (w : Word) : Addr := w.extractLsb' 0 12

/-- Class 0 is split by the whole word (R75, R80). -/
def decodeClass0 (w : Word) : Decoded :=
  if w = 0x00E0#16 then .instr .cls
  else if w = 0x00EE#16 then .instr .ret
  else .instr (.sys (fieldNNN w))

/-- Class 8 is split by its low nibble (R75, R76); the other seven nibbles are unknown (R78). -/
def decodeClass8 (w : Word) : Decoded :=
  let x := fieldX w
  let y := fieldY w
  match fieldN w with
  | 0x0#4 => .instr (.ldReg x y)
  | 0x1#4 => .instr (.orReg x y)
  | 0x2#4 => .instr (.andReg x y)
  | 0x3#4 => .instr (.xorReg x y)
  | 0x4#4 => .instr (.addReg x y)
  | 0x5#4 => .instr (.subReg x y)
  | 0x6#4 => .instr (.shr x y)
  | 0x7#4 => .instr (.subn x y)
  | 0xE#4 => .instr (.shl x y)
  | _ => .unknown w

/-- Class E is split by its low byte (R75, R76). -/
def decodeClassE (w : Word) : Decoded :=
  match fieldNN w with
  | 0x9E#8 => .instr (.skp (fieldX w))
  | 0xA1#8 => .instr (.sknp (fieldX w))
  | _ => .unknown w

/-- Class F is split by its low byte (R75, R76). -/
def decodeClassF (w : Word) : Decoded :=
  let x := fieldX w
  match fieldNN w with
  | 0x07#8 => .instr (.ldVxDt x)
  | 0x0A#8 => .instr (.ldVxK x)
  | 0x15#8 => .instr (.ldDtVx x)
  | 0x18#8 => .instr (.ldStVx x)
  | 0x1E#8 => .instr (.addI x)
  | 0x29#8 => .instr (.ldF x)
  | 0x33#8 => .instr (.ldB x)
  | 0x55#8 => .instr (.storeRegs x)
  | 0x65#8 => .instr (.loadRegs x)
  | _ => .unknown w

/-- `decode(w)` (R76). Classes 5 and 9 do not examine w[3:0] (R81). -/
def decodeWord (w : Word) : Decoded :=
  match fieldOp w with
  | 0x0#4 => decodeClass0 w
  | 0x1#4 => .instr (.jp (fieldNNN w))
  | 0x2#4 => .instr (.call (fieldNNN w))
  | 0x3#4 => .instr (.seImm (fieldX w) (fieldNN w))
  | 0x4#4 => .instr (.sneImm (fieldX w) (fieldNN w))
  | 0x5#4 => .instr (.seReg (fieldX w) (fieldY w))
  | 0x6#4 => .instr (.ldImm (fieldX w) (fieldNN w))
  | 0x7#4 => .instr (.addImm (fieldX w) (fieldNN w))
  | 0x8#4 => decodeClass8 w
  | 0x9#4 => .instr (.sneReg (fieldX w) (fieldY w))
  | 0xA#4 => .instr (.ldI (fieldNNN w))
  | 0xB#4 => .instr (.jpOffset (fieldNNN w))
  | 0xC#4 => .instr (.rnd (fieldX w) (fieldNN w))
  | 0xD#4 => .instr (.drw (fieldX w) (fieldY w) (fieldN w))
  | 0xE#4 => decodeClassE w
  | _ => decodeClassF w

/-- Two bytes as one word, the byte at the lower address first and most significant (20_memory.md R52). -/
def wordOfBytes (hi lo : Byte) : Word := hi ++ lo

/-- The byte of a word that stands at the lower address (R52). -/
def highByte (w : Word) : Byte := w.extractLsb' 8 8

/-- The byte of a word that stands at the higher address (R52). -/
def lowByte (w : Word) : Byte := w.extractLsb' 0 8

/-- Decode the instruction at the head of a byte sequence: what it is and the bytes after it.
Every instruction is two bytes (R70); fewer than two bytes hold none. -/
def decodeBytes : List Byte → Option (Decoded × List Byte)
  | hi :: lo :: rest => some (decodeWord (wordOfBytes hi lo), rest)
  | _ => none

/-- A word of the formats FIXED and NNN (R73). -/
def wordNNN (op : Nibble) (nnn : Addr) : Word := op ++ nnn

/-- A word of the formats XNN and X (R73). -/
def wordXNN (op x : Nibble) (nn : Byte) : Word := op ++ x ++ nn

/-- A word of the formats XY and XYN (R73). -/
def wordXYN (op x y n : Nibble) : Word := op ++ x ++ y ++ n

/-- The word of an instruction (R77). SE VX, VY and SNE VX, VY are encoded with N = 0, as R84 says an assembler does. -/
def encode : Instr → Word
  | .sys nnn => wordNNN 0x0 nnn
  | .cls => wordNNN 0x0 0x0E0
  | .ret => wordNNN 0x0 0x0EE
  | .jp nnn => wordNNN 0x1 nnn
  | .call nnn => wordNNN 0x2 nnn
  | .seImm x nn => wordXNN 0x3 x nn
  | .sneImm x nn => wordXNN 0x4 x nn
  | .seReg x y => wordXYN 0x5 x y 0x0
  | .ldImm x nn => wordXNN 0x6 x nn
  | .addImm x nn => wordXNN 0x7 x nn
  | .ldReg x y => wordXYN 0x8 x y 0x0
  | .orReg x y => wordXYN 0x8 x y 0x1
  | .andReg x y => wordXYN 0x8 x y 0x2
  | .xorReg x y => wordXYN 0x8 x y 0x3
  | .addReg x y => wordXYN 0x8 x y 0x4
  | .subReg x y => wordXYN 0x8 x y 0x5
  | .shr x y => wordXYN 0x8 x y 0x6
  | .subn x y => wordXYN 0x8 x y 0x7
  | .shl x y => wordXYN 0x8 x y 0xE
  | .sneReg x y => wordXYN 0x9 x y 0x0
  | .ldI nnn => wordNNN 0xA nnn
  | .jpOffset nnn => wordNNN 0xB nnn
  | .rnd x nn => wordXNN 0xC x nn
  | .drw x y n => wordXYN 0xD x y n
  | .skp x => wordXNN 0xE x 0x9E
  | .sknp x => wordXNN 0xE x 0xA1
  | .ldVxDt x => wordXNN 0xF x 0x07
  | .ldVxK x => wordXNN 0xF x 0x0A
  | .ldDtVx x => wordXNN 0xF x 0x15
  | .ldStVx x => wordXNN 0xF x 0x18
  | .addI x => wordXNN 0xF x 0x1E
  | .ldF x => wordXNN 0xF x 0x29
  | .ldB x => wordXNN 0xF x 0x33
  | .storeRegs x => wordXNN 0xF x 0x55
  | .loadRegs x => wordXNN 0xF x 0x65

/-- The two bytes of an instruction as memory holds them (R52). -/
def encodeBytes (i : Instr) : List Byte := [highByte (encode i), lowByte (encode i)]

/-- The word of an instruction whose nbits low bits are those of w and whose other bits are 0. -/
def tableWord (nbits w : Nat) : Word := BitVec.ofNat 16 (w % 2 ^ nbits)

/-- The instruction the decoder reads from a word numbered as spec/opcode_table.json numbers it:
the word laid out in memory's byte order (R52) and given to the decoder. -/
def decodeTableWord (nbits w : Nat) : Option Instr :=
  match decodeBytes [highByte (tableWord nbits w), lowByte (tableWord nbits w)] with
  | some (.instr i, _) => some i
  | _ => none

end Sys2Proof
end

