-- ==== Sys2Proof/Machine/Display.lean ====
section
/-! DEFINITION. Display instructions (45_display.md R180-R187), pixel by pixel as R181's pseudocode goes. -/

namespace Sys2Proof.Machine

/-- What a draw has done so far: the frame buffer and whether an on-pixel was flipped off. -/
structure Canvas where
  fb : Vector (BitVec 64) 32
  collide : Bool
deriving DecidableEq, Repr

/-- fb[x, y] of a frame buffer; off outside the 64 x 32 grid (10_state.md R31). -/
def pixelOf (fb : Vector (BitVec 64) 32) (x y : Nat) : Bool :=
  if h : y < 32 then fb[y].getLsbD x else false

/-- fb[x, y] (R31). -/
def State.pixel (s : State) (x y : Nat) : Bool := pixelOf s.fb x y

/-- fb[x, y] <- fb[x, y] ^ 1. -/
def togglePixel (fb : Vector (BitVec 64) 32) (x y : Nat) : Vector (BitVec 64) 32 :=
  if h : y < 32 then fb.set y (fb[y] ^^^ (1#64 <<< x)) else fb

/-- One sprite bit at column x of row y: an on bit notes a collision and toggles the pixel (R182, R184). -/
def drawBit (x y : Nat) (bit : Bool) (d : Canvas) : Canvas :=
  if bit then { fb := togglePixel d.fb x y, collide := d.collide || pixelOf d.fb x y } else d

/-- The first n columns of a sprite row, bit 7 leftmost, wrapping past column 63 (R182, R183). -/
def drawRow (x0 y : Nat) (row : Byte) : Nat → Canvas → Canvas
  | 0, d => d
  | c + 1, d => drawBit ((x0 + c) % 64) y (row.getLsbD (7 - c)) (drawRow x0 y row c d)

/-- The first n rows of the sprite at I, top row y0; a row below row 31 is skipped (R183). -/
def State.drawRows (s : State) (x0 y0 : Nat) : Nat → Canvas → Canvas
  | 0, d => d
  | r + 1, d =>
    let d' := State.drawRows s x0 y0 r d
    if y0 + r > 31 then d' else drawRow x0 (y0 + r) (s.readByte (s.i.toNat + r)) 8 d'

/-- display_changed <- 1 (R187). -/
def State.signalDisplay (s : State) : State := { s with displayChanged := true }

/-- fb <- the given frame buffer. -/
def State.setFb (s : State) (fb : Vector (BitVec 64) 32) : State := { s with fb := fb }

/-- CLS (R180). It does not signal a changed display (R187). -/
def execCls (s : State) : Host.Outcome State Fault Refusal :=
  .next (s.setFb (Vector.replicate 32 0)).next

/-- DRW VX, VY, N (R181). N = 0 reads no memory and checks nothing (R185); the check covers clipped rows (R183). -/
def execDrw (x y n : Nibble) (s : State) : Host.Outcome State Fault Refusal :=
  let x0 := (s.getV x).toNat % 64
  let y0 := (s.getV y).toNat % 32
  if decide (n.toNat > 0) && s.accessFaults s.i n.toNat false then
    .next (s.raise .addressError (encode (.drw x y n)))
  else
    let d := s.drawRows x0 y0 n.toNat { fb := s.fb, collide := false }
    .next (((s.setFb d.fb).setV 0xF (flagByte d.collide)).signalDisplay).next

end Sys2Proof.Machine
end

