-- ==== Sys2Proof/Machine/FlowControl.lean ====
section
/-! DEFINITION. Flow control instructions (41_flow_control.md R110-R121). PC is the address of the instruction. -/

namespace Sys2Proof.Machine

/-- SYS NNN (R110): a no-op under SYS_MODE = IGNORE, UNKNOWN_OPCODE under SYS_MODE = FAULT. -/
def execSys (nnn : Addr) (s : State) : Host.Outcome State Fault Refusal :=
  match s.cfg.sysMode with
  | .ignore => .next s.next
  | .fault => .next (s.raise .unknownOpcode (encode (.sys nnn)))

/-- JP NNN (R111). -/
def execJp (nnn : Addr) (s : State) : Host.Outcome State Fault Refusal :=
  .next (s.setPc (nnn.setWidth 16))

/-- CALL NNN (R112): STACK_OVERFLOW when SP = 16. -/
def execCall (nnn : Addr) (s : State) : Host.Outcome State Fault Refusal :=
  match s.push (s.pc + 2) with
  | some s' => .next (s'.setPc (nnn.setWidth 16))
  | none => .next (s.raise .stackOverflow (encode (.call nnn)))

/-- RET (R113): STACK_UNDERFLOW when SP = 0. -/
def execRet (s : State) : Host.Outcome State Fault Refusal :=
  match s.pop with
  | some (target, s') => .next (s'.setPc target)
  | none => .next (s.raise .stackUnderflow (encode .ret))

/-- SE VX, NN (R114). -/
def execSeImm (x : Nibble) (nn : Byte) (s : State) : Host.Outcome State Fault Refusal :=
  .next (s.skipIf (s.getV x == nn))

/-- SNE VX, NN (R115). -/
def execSneImm (x : Nibble) (nn : Byte) (s : State) : Host.Outcome State Fault Refusal :=
  .next (s.skipIf (s.getV x != nn))

/-- SE VX, VY (R116). -/
def execSeReg (x y : Nibble) (s : State) : Host.Outcome State Fault Refusal :=
  .next (s.skipIf (s.getV x == s.getV y))

/-- SNE VX, VY (R117). -/
def execSneReg (x y : Nibble) (s : State) : Host.Outcome State Fault Refusal :=
  .next (s.skipIf (s.getV x != s.getV y))

/-- JP V0, NNN (R118): NNN plus the offset register, mod 2^16. -/
def execJpOffset (nnn : Addr) (s : State) : Host.Outcome State Fault Refusal :=
  .next (s.setPc (nnn.setWidth 16 + (s.jumpOffset nnn).setWidth 16))

end Sys2Proof.Machine
end

