-- ==== Sys2Proof/Machine/Immediate.lean ====
section
/-! DEFINITION. Immediate load and add (43_immediate.md R150, R151). -/

namespace Sys2Proof.Machine

/-- LD VX, NN (R150). -/
def execLdImm (x : Nibble) (nn : Byte) (s : State) : Host.Outcome State Fault Refusal :=
  .next (s.setV x nn).next

/-- ADD VX, NN (R151): mod 256, and VF is not written as a flag. -/
def execAddImm (x : Nibble) (nn : Byte) (s : State) : Host.Outcome State Fault Refusal :=
  .next (s.setV x (s.getV x + nn)).next

end Sys2Proof.Machine
end

