-- ==== Sys2Proof/Machine/Keypad.lean ====
section
/-! DEFINITION. Keypad instructions (47_keypad.md R205-R208) and the poll of the key-wait latch (40_cycle.md R94). -/

namespace Sys2Proof.Machine

/-- SKP VX (R205). -/
def execSkp (x : Nibble) (s : State) : Host.Outcome State Fault Refusal :=
  .next (s.skipIf (s.keyDown x))

/-- SKNP VX (R206). -/
def execSknp (x : Nibble) (s : State) : Host.Outcome State Fault Refusal :=
  .next (s.skipIf (!s.keyDown x))

/-- Set the key-wait latch for register x, with the sampled snapshot as its baseline (R207). -/
def State.startKeyWait (s : State) (x : Nibble) : State :=
  { s with awaiting := true, awaitX := x, keyBase := s.keys }

/-- await <- 0 (R94). -/
def State.endKeyWait (s : State) : State := { s with awaiting := false }

/-- key_base <- k (R94). -/
def State.setKeyBase (s : State) (k : Word) : State := { s with keyBase := k }

/-- LD VX, K (R207): set the key-wait latch; PC stays at this FX0A. -/
def execLdVxK (x : Nibble) (s : State) : Host.Outcome State Fault Refusal :=
  .next (s.startKeyWait x)

/-- WAIT_POLL(k) (R94): a key that is down now and was up at the last STEP of the wait ends the wait. -/
def State.waitPoll (s : State) : State :=
  let new := s.keys &&& ~~~s.keyBase
  let s' :=
    match leastKey new with
    | some j => ((s.setV s.awaitX (BitVec.ofNat 8 j)).endKeyWait).next
    | none => s
  s'.setKeyBase s.keys

end Sys2Proof.Machine
end

