-- ==== Sys2Proof/Machine/MemoryIndex.lean ====
section
/-! DEFINITION. Memory and index instructions (44_memory_index.md R159-R165). Every check comes before the first write. -/

namespace Sys2Proof.Machine

/-- The decimal digits of a byte, hundreds first (R163). -/
def bcdDigit (v : Byte) : Nat → Byte
  | 0 => BitVec.ofNat 8 (v.toNat / 100)
  | 1 => BitVec.ofNat 8 (v.toNat / 10 % 10)
  | _ => BitVec.ofNat 8 (v.toNat % 10)

/-- MemWrite(a + j, 1, V[j]) for j = 0 .. n-1, ascending (R164, 20_memory.md R61). -/
def State.storeFrom (a : Nat) : Nat → State → State
  | 0, s => s
  | n + 1, s => let s' := State.storeFrom a n s; s'.writeByte (a + n) (s'.getV (BitVec.ofNat 4 n))

/-- V[j] <- MemRead(a + j, 1) for j = 0 .. n-1, ascending (R165, R61). -/
def State.loadFrom (a : Nat) : Nat → State → State
  | 0, s => s
  | n + 1, s => let s' := State.loadFrom a n s; s'.setV (BitVec.ofNat 4 n) (s'.readByte (a + n))

/-- LD I, NNN (R160). -/
def execLdI (nnn : Addr) (s : State) : Host.Outcome State Fault Refusal :=
  .next (s.setI (nnn.setWidth 16)).next

/-- ADD I, VX (R161): ADDRESS_ERROR when the sum, on naturals, is above 0x0FFF. -/
def execAddI (x : Nibble) (s : State) : Host.Outcome State Fault Refusal :=
  let t := s.i.toNat + (s.getV x).toNat
  if t > 0x0FFF then .next (s.raise .addressError (encode (.addI x)))
  else .next (s.setI (BitVec.ofNat 16 t)).next

/-- LD F, VX (R162). -/
def execLdF (x : Nibble) (s : State) : Host.Outcome State Fault Refusal :=
  .next (s.setI (s.glyphAddress x)).next

/-- LD B, VX (R163). -/
def execLdB (x : Nibble) (s : State) : Host.Outcome State Fault Refusal :=
  let v := s.getV x
  let a := s.i.toNat
  if s.accessFaults s.i 3 true then .next (s.raise .addressError (encode (.ldB x)))
  else .next (((s.writeByte a (bcdDigit v 0)).writeByte (a + 1) (bcdDigit v 1)).writeByte (a + 2) (bcdDigit v 2)).next

/-- LD [I], VX (R164). -/
def execStoreRegs (x : Nibble) (s : State) : Host.Outcome State Fault Refusal :=
  let newI := s.advancedI x
  if s.accessFaults s.i (x.toNat + 1) true || decide (newI > 0x0FFF) then
    .next (s.raise .addressError (encode (.storeRegs x)))
  else .next ((State.storeFrom s.i.toNat (x.toNat + 1) s).setI (BitVec.ofNat 16 newI)).next

/-- LD VX, [I] (R165). -/
def execLoadRegs (x : Nibble) (s : State) : Host.Outcome State Fault Refusal :=
  let newI := s.advancedI x
  if s.accessFaults s.i (x.toNat + 1) false || decide (newI > 0x0FFF) then
    .next (s.raise .addressError (encode (.loadRegs x)))
  else .next ((State.loadFrom s.i.toNat (x.toNat + 1) s).setI (BitVec.ofNat 16 newI)).next

end Sys2Proof.Machine
end

