-- ==== Sys2Proof/Machine/Random.lean ====
section
/-! DEFINITION. Random number instruction (46_random.md R200, R201). -/

namespace Sys2Proof.Machine

/-- RND VX, NN (R201): the STEP's rand_byte input, any byte, masked by NN. -/
def execRnd (x : Nibble) (nn : Byte) (s : State) : Host.Outcome State Fault Refusal :=
  .next (s.setV x (s.rand &&& nn)).next

end Sys2Proof.Machine
end

