-- ==== Sys2Proof/Machine/Timers.lean ====
section
/-! DEFINITION. Timer instructions (48_timers.md R220-R222). -/

namespace Sys2Proof.Machine

/-- DT <- b. -/
def State.setDt (s : State) (b : Byte) : State := { s with dt := b }

/-- ST <- b. -/
def State.setSt (s : State) (b : Byte) : State := { s with st := b }

/-- LD VX, DT (R220). -/
def execLdVxDt (x : Nibble) (s : State) : Host.Outcome State Fault Refusal :=
  .next (s.setV x s.dt).next

/-- LD DT, VX (R221). -/
def execLdDtVx (x : Nibble) (s : State) : Host.Outcome State Fault Refusal :=
  .next (s.setDt (s.getV x)).next

/-- LD ST, VX (R222). -/
def execLdStVx (x : Nibble) (s : State) : Host.Outcome State Fault Refusal :=
  .next (s.setSt (s.getV x)).next

end Sys2Proof.Machine
end

