-- ==== Sys2Proof/Machine/Cycle.lean ====
section
/-! DEFINITION. The cycle driver: the STEP transaction (40_cycle.md R90-R101) and the command the host issues next. -/

namespace Sys2Proof.Machine

/-- MemRead(PC, 2): the two bytes at PC as one big-endian word (R92, 20_memory.md R52). -/
def State.fetchWord (s : State) : Word := wordOfBytes (s.readByte s.pc.toNat) (s.readByte (s.pc.toNat + 1))

/-- Fetch, decode and execute (R90): ADDRESS_ERROR when PC > 0x0FFE (R92), UNKNOWN_OPCODE when the word is unknown (R93). -/
def fetchExecute (s : State) : Host.Outcome State Fault Refusal :=
  if s.pc.toNat > 0x0FFE then .next (s.raise .addressError 0x0000)
  else
    match decodeWord s.fetchWord with
    | .unknown w => .next (s.raise .unknownOpcode w)
    | .instr i => exec i s

/-- STEP (R90), its inputs sampled in the state (R91): nothing more while halted (R98), a poll while the key-wait latch is set (R94). -/
def stepCommand (s : State) : Host.Outcome State Fault Refusal :=
  let s := s.begin
  if s.halted then .next s
  else if s.awaiting then .next s.waitPoll
  else fetchExecute s

/-- One host command, atomically (00_scope.md R7). -/
def performCommand (c : HostCommand) (s : State) : Host.Outcome State Fault Refusal :=
  match c with
  | .powerOn => .next s.powerOnCommand
  | .step keys rand => stepCommand (s.sample keys rand)
  | .tick => .next s.tick
  | .reset => .next s.resetCommand
  | .load rom => .next (s.loadCommand rom)

/-- Take the host's next command off the list. -/
def State.takePending (s : State) (rest : List HostCommand) : State := { s with pending := rest }

/-- A STEP the host has not listed: its inputs are free values (R200, 70_reset_and_hazards.md R273; log entry 3). -/
def State.sampleFree (s : State) : State :=
  { s.sample (Config.freeKeys s.draws) (Config.freeRand s.draws) with draws := s.draws + 1 }

/-- Perform the host's next command; a host that has listed none issues a STEP (log entry 2). -/
def performNext (s : State) : Host.Outcome State Fault Refusal :=
  match s.pending with
  | [] => stepCommand s.sampleFree
  | c :: rest => performCommand c (s.takePending rest)

end Sys2Proof.Machine
end

