-- ==== Sys2Proof/Machine/Step.lean ====
section
/-! DEFINITION. One step of the machine is one host command (00_scope.md R7); storing an instruction where the next STEP fetches it. -/

namespace Sys2Proof.Machine

/-- One atomic host command. -/
def step (s : State) : Host.Outcome State Fault Refusal := Sys2Proof.Machine.performNext s

/-- The state from which the very next step fetches and runs the instruction whose bits are w: its two bytes at PC in memory's
byte order (20_memory.md R52), a STEP with the port values as they stand as the host's next command, no halt, no key wait,
and PC at 0x200 when PC is where nothing is fetched (40_cycle.md R92). It stands for a LOAD (log entry 7). -/
def State.withFetchWord (s : State) (nbits w : Nat) : State :=
  let pc := if s.pc.toNat ≤ 0x0FFE then s.pc else 0x0200
  let s' := { s with pc := pc, awaiting := false, faultCode := .none, pending := .step s.keys s.rand :: s.pending }
  (s'.writeByte pc.toNat (highByte (tableWord nbits w))).writeByte (pc.toNat + 1) (lowByte (tableWord nbits w))

end Sys2Proof.Machine
end

