-- ==== Sys2Proof/Machine/Ports.lean ====
section
/-! DEFINITION. The read-only output ports of the core (00_scope.md R9) as functions of the state. -/

namespace Sys2Proof.Machine

/-- The number of a fault_code value (10_state.md R36). -/
def FaultCode.toByte : FaultCode → Byte
  | .none => 0
  | .unknownOpcode => 1
  | .stackOverflow => 2
  | .stackUnderflow => 3
  | .outOfSpace => 4
  | .addressError => 5

/-- The first n rows of the frame buffer as one number: pixel (x, y) is bit y*64 + x (R9). -/
def fbNat (fb : Vector (BitVec 64) 32) : Nat → Nat
  | 0 => 0
  | n + 1 => fbNat fb n + (if h : n < 32 then fb[n].toNat else 0) * 2 ^ (64 * n)

/-- The outputs of R9. -/
structure Outputs where
  fb : BitVec 2048
  displayChanged : Bool
  dtOut : Byte
  stOut : Byte
  tone : Bool
  awaitingKey : Bool
  faultCode : Byte
  faultPc : Word
  faultWord : Word
deriving DecidableEq, Repr

/-- What the host reads at the ports (R9); tone is ST != 0 (10_state.md R30), awaiting_key is await (R34). -/
def State.outputs (s : State) : Outputs where
  fb := BitVec.ofNat 2048 (fbNat s.fb 32)
  displayChanged := s.displayChanged
  dtOut := s.dt
  stOut := s.st
  tone := s.st != 0
  awaitingKey := s.awaiting
  faultCode := s.faultCode.toByte
  faultPc := s.faultPc
  faultWord := s.faultWord

end Sys2Proof.Machine
end

