-- ==== Sys2Proof/WellFormed.lean ====
section
/-! DEFINITION. Which terms of Instr are instructions: every operand has the width of its field, so the one check left is
the exception of the opcode map's SYS row (30_encoding.md R77, R80). -/

namespace Sys2Proof

/-- SYS NNN is every class-0 word except 0x00E0 and 0x00EE (R80, R110): those two words are CLS and RET. -/
def Instr.wellFormed : Instr → Bool
  | .sys nnn => nnn != 0x0E0#12 && nnn != 0x0EE#12
  | _ => true

end Sys2Proof
end

