-- ==== Sys2Proof/Safety.lean ====
section
/-! DEFINITION. The terms in which claims speak: what a step leaves unchanged, what an instruction's effect is, and the invariants. -/

namespace Sys2Proof.Safety

open Sys2Proof.Machine

/-! ### Frames -/

/-- The parts of the state. -/
inductive Part where
  | regs | index | pc | stack | timers | screen | keyWait | displayFlag | faultRecord | report | memory | params | ports | host
deriving DecidableEq, Repr

/-- A part is the same in two states. Memory is compared byte by byte through the model's read. -/
def Part.same (p : Part) (s t : State) : Prop :=
  match p with
  | .regs => ∀ r, t.getV r = s.getV r
  | .index => t.i = s.i
  | .pc => t.pc = s.pc
  | .stack => t.stack = s.stack ∧ t.sp = s.sp
  | .timers => t.dt = s.dt ∧ t.st = s.st
  | .screen => t.fb = s.fb
  | .keyWait => t.awaiting = s.awaiting ∧ t.awaitX = s.awaitX ∧ t.keyBase = s.keyBase
  | .displayFlag => t.displayChanged = s.displayChanged
  | .faultRecord => t.faultCode = s.faultCode ∧ t.faultPc = s.faultPc ∧ t.faultWord = s.faultWord
  | .report => t.report = s.report
  | .memory => ∀ a, t.readByte a = s.readByte a
  | .params => t.cfg = s.cfg
  | .ports => t.keys = s.keys ∧ t.rand = s.rand
  | .host => t.pending = s.pending ∧ t.draws = s.draws

/-- Every part outside the listed ones is the same. -/
def Frame (changed : List Part) (s t : State) : Prop := ∀ p, p ∉ changed → p.same s t

/-- Every general register outside the listed ones is the same. -/
def RegsKept (dst : List Nibble) (s t : State) : Prop := ∀ r, r ∉ dst → t.getV r = s.getV r

/-- Every byte of memory outside the n bytes at a is the same. -/
def BytesKept (a n : Nat) (s t : State) : Prop := ∀ b, b < a ∨ a + n ≤ b → t.readByte b = s.readByte b

/-! ### Effects -/

/-- V[x] <- value, PC <- PC + 2, and nothing else. -/
def RegEffect (s t : State) (x : Nibble) (value : Byte) : Prop :=
  t.getV x = value ∧ RegsKept [x] s t ∧ t.pc = s.pc + 2 ∧ Frame [.regs, .pc] s t

/-- V[x] <- value, then VF <- flag, PC <- PC + 2, and nothing else: with x = F the flag stands (00_scope.md R13). -/
def RegFlagEffect (s t : State) (x : Nibble) (value flag : Byte) : Prop :=
  t.getV 0xF = flag ∧ (x ≠ 0xF → t.getV x = value) ∧ RegsKept [x, 0xF] s t ∧ t.pc = s.pc + 2 ∧ Frame [.regs, .pc] s t

/-- PC <- target and nothing else. -/
def PcEffect (s t : State) (target : Word) : Prop := t.pc = target ∧ Frame [.pc] s t

/-- I <- value, PC <- PC + 2, and nothing else. -/
def IndexEffect (s t : State) (value : Word) : Prop :=
  t.i = value ∧ t.pc = s.pc + 2 ∧ Frame [.index, .pc] s t

/-- raise Fault(code, word) and nothing else (60_exceptions.md R231), with the report of R100. -/
def FaultEffect (s t : State) (code : FaultCode) (word : Word) : Prop :=
  t.faultCode = code ∧ t.faultPc = s.pc ∧ t.faultWord = word ∧ t.report = code ∧ Frame [.faultRecord, .report] s t

/-- CheckAccess of 44_memory_index.md R159 as a condition: the n bytes at I lie in 0x000..0xFFF, and a write under
RESERVED_WRITE = FAULT does not start below 0x200. -/
def AccessOk (s : State) (n : Nat) (isWrite : Bool) : Prop :=
  s.i.toNat + n - 1 ≤ 0xFFF ∧ (isWrite = true → s.cfg.reservedWrite = .fault → 0x200 ≤ s.i.toNat)

/-- V[x] <- value with VF by LOGIC_VF_MODE: cleared under CLEAR, not written under PRESERVE (42_alu.md R131). -/
def LogicEffect (s t : State) (x : Nibble) (value : Byte) : Prop :=
  match s.cfg.logicVfMode with
  | .clear => RegFlagEffect s t x value 0
  | .preserve => RegEffect s t x value

/-- The I that FX55 and FX65 leave, as a natural number (44_memory_index.md R164). -/
def loadStoreIndex (s : State) (x : Nibble) : Nat :=
  match s.cfg.ldstIMode with
  | .unchanged => s.i.toNat
  | .plusXPlus1 => s.i.toNat + x.toNat + 1
  | .plusX => s.i.toNat + x.toNat

/-- The word at PC: the byte at PC above the byte at PC + 1 (40_cycle.md R92). -/
def wordAtPc (s : State) : Word := s.readByte s.pc.toNat ++ s.readByte (s.pc.toNat + 1)

/-- The state a command starts from: it is taken off the host's list, display_changed is 0 and nothing is reported yet. -/
def commandStart (s : State) (rest : List HostCommand) : State :=
  { s with pending := rest, displayChanged := false, report := .none }

/-- The state a STEP starts from, with its inputs sampled (40_cycle.md R90, R91). -/
def stepStart (s : State) (keys : Word) (rand : Byte) (rest : List HostCommand) : State :=
  { s with pending := rest, displayChanged := false, report := .none, keys := keys, rand := rand }

/-- The state in which a STEP will fetch: no halt, no key wait, PC not above 0x0FFE (60_exceptions.md R233). -/
def Fetches (s : State) : Prop := s.faultCode = .none ∧ s.awaiting = false ∧ s.pc.toNat ≤ 0x0FFE

/-- Key j is down in k and was up in base (40_cycle.md R94). -/
def NewKey (k base : Word) (j : Nat) : Prop := k.getLsbD j = true ∧ base.getLsbD j = false

/-- The sprite of n rows at I lies in memory: DXYN's check (45_display.md R181), none for n = 0 (R185). -/
def SpriteInMemory (s : State) (n : Nat) : Prop := n = 0 ∨ s.i.toNat + n - 1 ≤ 0xFFF

/-- The fault an instruction raises in a state, as the table of 60_exceptions.md R230 lists them: no other instruction can fault. -/
def tableFault (i : Instr) (s : State) : FaultCode :=
  match i with
  | .sys _ => if s.cfg.sysMode = .fault then .unknownOpcode else .none
  | .call _ => if s.sp.val = 16 then .stackOverflow else .none
  | .ret => if s.sp.val = 0 then .stackUnderflow else .none
  | .addI x => if s.i.toNat + (s.getV x).toNat > 0x0FFF then .addressError else .none
  | .drw _ _ n => if 0 < n.toNat ∧ s.i.toNat + n.toNat - 1 > 0xFFF then .addressError else .none
  | .ldB _ =>
    if s.i.toNat + 2 > 0xFFF ∨ (s.i.toNat < 0x200 ∧ s.cfg.reservedWrite = .fault) then .addressError else .none
  | .storeRegs x =>
    if s.i.toNat + x.toNat > 0xFFF ∨ (s.i.toNat < 0x200 ∧ s.cfg.reservedWrite = .fault) ∨ loadStoreIndex s x > 0x0FFF
    then .addressError else .none
  | .loadRegs x => if s.i.toNat + x.toNat > 0xFFF ∨ loadStoreIndex s x > 0x0FFF then .addressError else .none
  | _ => .none

/-- The instructions that may write VF in a state: the flag writers of 10_state.md R21, and those whose destination is VF. -/
def mayWriteVF (i : Instr) (s : State) : Bool :=
  match i with
  | .addReg _ _ | .subReg _ _ | .shr _ _ | .subn _ _ | .shl _ _ | .drw _ _ _ => true
  | .orReg x _ | .andReg x _ | .xorReg x _ => s.cfg.logicVfMode == .clear || x == 0xF
  | .ldImm x _ | .addImm x _ | .ldReg x _ | .rnd x _ | .ldVxDt x | .loadRegs x => x == 0xF
  | _ => false

/-- Every element of 10_state.md R40 that RESET sets has its reset value. -/
def FreshCore (t : State) : Prop :=
  (∀ r, t.getV r = 0) ∧ t.i = 0x0000 ∧ t.pc = 0x0200 ∧ t.sp.val = 0 ∧ (∀ j : Fin 16, t.stack[j] = 0x0000) ∧
  t.dt = 0 ∧ t.st = 0 ∧ (∀ x y, t.pixel x y = false) ∧
  t.awaiting = false ∧ t.awaitX = 0 ∧ t.keyBase = 0x0000 ∧ t.displayChanged = false ∧
  t.faultCode = .none ∧ t.faultPc = 0x0000 ∧ t.faultWord = 0x0000

/-- Whether the sprite of n rows at I lights pixel (x, y) when drawn with its top left corner at (x0, y0): some row r of it
lies on row y without wrapping and some column c of it on column x after wrapping, with bit 7 - c of the row byte on
(45_display.md R182, R183). -/
def SpriteLit (s : State) (x0 y0 n x y : Nat) : Prop :=
  ∃ r, r < n ∧ y0 + r = y ∧ ∃ c, c < 8 ∧ (x0 + c) % 64 = x ∧ (s.readByte (s.i.toNat + r)).getLsbD (7 - c) = true

/-! ### Invariants -/

/-- Memory is in canonical form. -/
def MemoryCanonical (s : State) : Prop := Memory.wf s.cfg.fontBase s.mem = true

/-- I never exceeds 0x0FFF (10_state.md R24). -/
def IndexInRange (s : State) : Prop := s.i.toNat ≤ 0x0FFF

/-- PC never exceeds 0x10FE, the largest target of BNNN (41_flow_control.md R118); a return address is at most 0x1000;
a waiting FX0A was fetched, so its address is at most 0x0FFE (40_cycle.md R92). -/
def PcInRange (s : State) : Prop :=
  s.pc.toNat ≤ 0x10FE ∧ (∀ j : Fin 16, s.stack[j].toNat ≤ 0x1000) ∧ (s.awaiting = true → s.pc.toNat ≤ 0x0FFE)

/-- The fault record is clear while there is no fault; while there is one, fault_pc is PC (10_state.md R37) and
display_changed is 0 (45_display.md R187); a reported fault is the recorded one. -/
def FaultRecordConsistent (s : State) : Prop :=
  (s.faultCode = .none → s.faultPc = 0x0000 ∧ s.faultWord = 0x0000) ∧
  (s.faultCode ≠ .none → s.faultPc = s.pc ∧ s.displayChanged = false) ∧
  (s.report = .none ∨ s.report = s.faultCode)

/-- Under RESERVED_WRITE = FAULT, 0x000..0x1FF holds its power-on content: the font is never overwritten (20_memory.md R57). -/
def LowMemoryIntact (s : State) : Prop :=
  s.cfg.reservedWrite = .fault → ∀ a, a < 0x200 → s.readByte a = powerOnByte s.cfg.fontBase a

end Sys2Proof.Safety
end

