-- ==== Sys2Proof/Certificates/Slice0/Obligations.lean ====
section
/-! DEFINITION. The statements for the provers. Each docstring names the rule of spec/ it formalises. -/

open Sys2Proof Sys2Proof.Machine Sys2Proof.Safety

/-! ### Encoding -/

/-- Words written out from the opcode map of R77 decode to the forms they stand for. -/
def Obligations.SpelledWordsDecode : Prop :=
  decodeWord 0x0123 = .instr (.sys 0x123) ∧ decodeWord 0x00E0 = .instr .cls ∧ decodeWord 0x00EE = .instr .ret ∧
  decodeWord 0x2300 = .instr (.call 0x300) ∧ decodeWord 0x7103 = .instr (.addImm 0x1 0x03) ∧
  decodeWord 0x8124 = .instr (.addReg 0x1 0x2) ∧ decodeWord 0xA300 = .instr (.ldI 0x300) ∧
  decodeWord 0xC30F = .instr (.rnd 0x3 0x0F) ∧ decodeWord 0xD125 = .instr (.drw 0x1 0x2 0x5) ∧
  decodeWord 0xE59E = .instr (.skp 0x5) ∧ decodeWord 0xF115 = .instr (.ldDtVx 0x1) ∧
  decodeWord 0xF265 = .instr (.loadRegs 0x2) ∧ decodeWord 0xFFFF = .unknown 0xFFFF

/-- Decoding the encoding of any well-formed instruction gives it back, as a word and as the two bytes memory holds. -/
def Obligations.DecodeOfEncodeIsIdentity : Prop :=
  ∀ i : Instr, i.wellFormed = true →
    decodeWord (encode i) = .instr i ∧
      ∀ rest : List Byte, decodeBytes (encodeBytes i ++ rest) = some (.instr i, rest)

/-- What a word decodes to is well formed and encodes to that word, up to the low nibble that classes 5 and 9 do not examine (R81). -/
def Obligations.EncodeOfDecodeIsWord : Prop :=
  ∀ (w : Word) (i : Instr), decodeWord w = .instr i →
    i.wellFormed = true ∧
      encode i = if w.extractLsb' 12 4 = 0x5#4 ∨ w.extractLsb' 12 4 = 0x9#4 then w &&& 0xFFF0 else w

/-- The unknown words are those of R78: class 8 with a low nibble among seven, class E and class F with another low byte. -/
def Obligations.UnknownWordsAreThoseListed : Prop :=
  ∀ w : Word, decodeWord w = .unknown w ↔
    (w.extractLsb' 12 4 = 0x8#4 ∧ w.extractLsb' 0 4 ∈ [0x8#4, 0x9#4, 0xA#4, 0xB#4, 0xC#4, 0xD#4, 0xF#4]) ∨
    (w.extractLsb' 12 4 = 0xE#4 ∧ w.extractLsb' 0 8 ∉ [0x9E#8, 0xA1#8]) ∨
    (w.extractLsb' 12 4 = 0xF#4 ∧
      w.extractLsb' 0 8 ∉ [0x07#8, 0x0A#8, 0x15#8, 0x18#8, 0x1E#8, 0x29#8, 0x33#8, 0x55#8, 0x65#8])

/-! ### Flow control -/

/-- R110: SYS NNN only advances PC under IGNORE and raises UNKNOWN_OPCODE with its word under FAULT. -/
def Obligations.SysIgnoredOrUnknownOpcode : Prop :=
  ∀ (nnn : Addr) (s : State),
    (nnn ≠ 0x0E0 → nnn ≠ 0x0EE → decodeWord (0x0#4 ++ nnn) = .instr (.sys nnn)) ∧
    (s.cfg.sysMode = .ignore → ∃ t, exec (.sys nnn) s = .next t ∧ PcEffect s t (s.pc + 2)) ∧
    (s.cfg.sysMode = .fault →
      ∃ t, exec (.sys nnn) s = .next t ∧ FaultEffect s t .unknownOpcode (0x0#4 ++ nnn))

/-- R111, R118: JP NNN sets PC to NNN; JP V0, NNN adds V0, or V[NNN[11:8]] under JUMP_OFFSET_REG = VX, to NNN.
The exact sum never passes 16 bits. -/
def Obligations.JumpsSetPc : Prop :=
  ∀ (nnn : Addr) (s : State),
    decodeWord (0x1#4 ++ nnn) = .instr (.jp nnn) ∧ decodeWord (0xB#4 ++ nnn) = .instr (.jpOffset nnn) ∧
    (∃ t, exec (.jp nnn) s = .next t ∧ PcEffect s t (nnn.setWidth 16)) ∧
    (∃ t, exec (.jpOffset nnn) s = .next t ∧
      t.pc.toNat = nnn.toNat +
        (match s.cfg.jumpOffsetReg with
          | .v0 => s.getV 0x0
          | .vx => s.getV (nnn.extractLsb' 8 4)).toNat ∧
      Frame [.pc] s t)

/-- R112: CALL NNN pushes PC + 2 and jumps; with SP = 16 it raises STACK_OVERFLOW. -/
def Obligations.CallPushesReturnAddress : Prop :=
  ∀ (nnn : Addr) (s : State),
    decodeWord (0x2#4 ++ nnn) = .instr (.call nnn) ∧
    (s.sp.val < 16 → ∃ t, exec (.call nnn) s = .next t ∧
      (∀ j : Fin 16, t.stack[j] = if j.val = s.sp.val then s.pc + 2 else s.stack[j]) ∧
      t.sp.val = s.sp.val + 1 ∧ t.pc = nnn.setWidth 16 ∧ Frame [.stack, .pc] s t) ∧
    (s.sp.val = 16 → ∃ t, exec (.call nnn) s = .next t ∧ FaultEffect s t .stackOverflow (0x2#4 ++ nnn))

/-- R113: RET pops PC, leaving every slot as it was; with SP = 0 it raises STACK_UNDERFLOW. -/
def Obligations.RetPopsReturnAddress : Prop :=
  ∀ s : State,
    decodeWord 0x00EE = .instr .ret ∧
    (0 < s.sp.val → ∃ t, exec .ret s = .next t ∧ t.sp.val + 1 = s.sp.val ∧
      (∀ j : Fin 16, j.val + 1 = s.sp.val → t.pc = s.stack[j]) ∧ t.stack = s.stack ∧ Frame [.stack, .pc] s t) ∧
    (s.sp.val = 0 → ∃ t, exec .ret s = .next t ∧ FaultEffect s t .stackUnderflow 0x00EE)

/-- R113 (the source's §8): RET after CALL restores PC to the instruction after the call site and SP to its value before the call.
Between the two the subroutine may change anything but the stack. -/
def Obligations.RetUndoesCall : Prop :=
  ∀ (nnn : Addr) (s t u : State), s.sp.val < 16 → exec (.call nnn) s = .next t →
    u.stack = t.stack → u.sp = t.sp →
    ∃ r, exec .ret u = .next r ∧ r.pc = s.pc + 2 ∧ r.sp = s.sp ∧ Frame [.stack, .pc] u r

/-- R114, R115: the immediate skips. -/
def Obligations.ImmediateSkips : Prop :=
  ∀ (x : Nibble) (nn : Byte) (s : State),
    decodeWord (0x3#4 ++ x ++ nn) = .instr (.seImm x nn) ∧ decodeWord (0x4#4 ++ x ++ nn) = .instr (.sneImm x nn) ∧
    (∃ t, exec (.seImm x nn) s = .next t ∧ PcEffect s t (if s.getV x = nn then s.pc + 4 else s.pc + 2)) ∧
    (∃ t, exec (.sneImm x nn) s = .next t ∧ PcEffect s t (if s.getV x ≠ nn then s.pc + 4 else s.pc + 2))

/-- R116, R117: the register skips. -/
def Obligations.RegisterSkips : Prop :=
  ∀ (x y : Nibble) (s : State),
    (∀ n : Nibble, decodeWord (0x5#4 ++ x ++ y ++ n) = .instr (.seReg x y) ∧
      decodeWord (0x9#4 ++ x ++ y ++ n) = .instr (.sneReg x y)) ∧
    (∃ t, exec (.seReg x y) s = .next t ∧ PcEffect s t (if s.getV x = s.getV y then s.pc + 4 else s.pc + 2)) ∧
    (∃ t, exec (.sneReg x y) s = .next t ∧ PcEffect s t (if s.getV x ≠ s.getV y then s.pc + 4 else s.pc + 2))

/-! ### Register arithmetic, logic and immediates -/

/-- R130: LD VX, VY. -/
def Obligations.CopyRegister : Prop :=
  ∀ (x y : Nibble) (s : State), decodeWord (0x8#4 ++ x ++ y ++ 0x0#4) = .instr (.ldReg x y) ∧
    ∃ t, exec (.ldReg x y) s = .next t ∧ RegEffect s t x (s.getV y)

/-- R131 to R133: OR, AND and XOR, bit by bit, with VF by LOGIC_VF_MODE. -/
def Obligations.LogicOperations : Prop :=
  ∀ (x y : Nibble) (s : State),
    decodeWord (0x8#4 ++ x ++ y ++ 0x1#4) = .instr (.orReg x y) ∧
    decodeWord (0x8#4 ++ x ++ y ++ 0x2#4) = .instr (.andReg x y) ∧
    decodeWord (0x8#4 ++ x ++ y ++ 0x3#4) = .instr (.xorReg x y) ∧
    (∃ t, exec (.orReg x y) s = .next t ∧ LogicEffect s t x (s.getV x ||| s.getV y)) ∧
    (∃ t, exec (.andReg x y) s = .next t ∧ LogicEffect s t x (s.getV x &&& s.getV y)) ∧
    (∃ t, exec (.xorReg x y) s = .next t ∧ LogicEffect s t x (s.getV x ^^^ s.getV y))

/-- R135: ADD VX, VY writes the sum mod 256 and then VF = 1 iff the exact sum is above 255. -/
def Obligations.AddRegistersCarry : Prop :=
  ∀ (x y : Nibble) (s : State), decodeWord (0x8#4 ++ x ++ y ++ 0x4#4) = .instr (.addReg x y) ∧
    ∃ t, exec (.addReg x y) s = .next t ∧ RegFlagEffect s t x (BitVec.ofNat 8 (((s.getV x).toNat + (s.getV y).toNat) % 256))
      (if (s.getV x).toNat + (s.getV y).toNat > 255 then 1 else 0)

/-- R136, R138: SUB and SUBN write the difference mod 256 and then VF = 1 iff there is no borrow. -/
def Obligations.SubtractRegistersNoBorrow : Prop :=
  ∀ (x y : Nibble) (s : State),
    decodeWord (0x8#4 ++ x ++ y ++ 0x5#4) = .instr (.subReg x y) ∧
    decodeWord (0x8#4 ++ x ++ y ++ 0x7#4) = .instr (.subn x y) ∧
    (∃ t, exec (.subReg x y) s = .next t ∧
      RegFlagEffect s t x (BitVec.ofNat 8 (((s.getV x).toNat + 256 - (s.getV y).toNat) % 256))
        (if (s.getV x).toNat ≥ (s.getV y).toNat then 1 else 0)) ∧
    (∃ t, exec (.subn x y) s = .next t ∧
      RegFlagEffect s t x (BitVec.ofNat 8 (((s.getV y).toNat + 256 - (s.getV x).toNat) % 256))
        (if (s.getV y).toNat ≥ (s.getV x).toNat then 1 else 0))

/-- R137, R139: SHR and SHL shift the source chosen by SHIFT_SRC by one bit; VF is the bit shifted out. -/
def Obligations.ShiftsByOne : Prop :=
  ∀ (x y : Nibble) (s : State) (src : Byte),
    (s.cfg.shiftSrc = .vx → src = s.getV x) → (s.cfg.shiftSrc = .vy → src = s.getV y) →
    decodeWord (0x8#4 ++ x ++ y ++ 0x6#4) = .instr (.shr x y) ∧
    decodeWord (0x8#4 ++ x ++ y ++ 0xE#4) = .instr (.shl x y) ∧
    (∃ t, exec (.shr x y) s = .next t ∧
      RegFlagEffect s t x (BitVec.ofNat 8 (src.toNat / 2)) (BitVec.ofNat 8 (src.toNat % 2))) ∧
    (∃ t, exec (.shl x y) s = .next t ∧
      RegFlagEffect s t x (BitVec.ofNat 8 (src.toNat * 2 % 256)) (BitVec.ofNat 8 (src.toNat / 128)))

/-- R150, R151: LD VX, NN, and ADD VX, NN, which wraps mod 256 and writes no flag. -/
def Obligations.ImmediateLoadAndAdd : Prop :=
  ∀ (x : Nibble) (nn : Byte) (s : State),
    decodeWord (0x6#4 ++ x ++ nn) = .instr (.ldImm x nn) ∧ decodeWord (0x7#4 ++ x ++ nn) = .instr (.addImm x nn) ∧
    (∃ t, exec (.ldImm x nn) s = .next t ∧ RegEffect s t x nn) ∧
    (∃ t, exec (.addImm x nn) s = .next t ∧
      RegEffect s t x (BitVec.ofNat 8 (((s.getV x).toNat + nn.toNat) % 256)))

/-! ### Memory and index -/

/-- R160, R162: LD I, NNN, and LD F, VX. -/
def Obligations.IndexLoads : Prop :=
  (∀ (nnn : Addr) (s : State), decodeWord (0xA#4 ++ nnn) = .instr (.ldI nnn) ∧
    ∃ t, exec (.ldI nnn) s = .next t ∧ IndexEffect s t (nnn.setWidth 16)) ∧
  (∀ (x : Nibble) (s : State), decodeWord (0xF#4 ++ x ++ 0x29#8) = .instr (.ldF x) ∧
    ∃ t, exec (.ldF x) s = .next t ∧ IndexEffect s t (BitVec.ofNat 16 (s.cfg.fontBase.val + 5 * ((s.getV x).toNat % 16))))

/-- R161: ADD I, VX, or ADDRESS_ERROR when the exact sum is above 0x0FFF. -/
def Obligations.AddToIndex : Prop :=
  ∀ (x : Nibble) (s : State),
    decodeWord (0xF#4 ++ x ++ 0x1E#8) = .instr (.addI x) ∧
    (s.i.toNat + (s.getV x).toNat ≤ 0x0FFF → ∃ t, exec (.addI x) s = .next t ∧
      IndexEffect s t (BitVec.ofNat 16 (s.i.toNat + (s.getV x).toNat))) ∧
    (s.i.toNat + (s.getV x).toNat > 0x0FFF → ∃ t, exec (.addI x) s = .next t ∧
      FaultEffect s t .addressError (0xF#4 ++ x ++ 0x1E#8))

/-- R163: LD B, VX stores the three decimal digits at I, I + 1 and I + 2, or raises ADDRESS_ERROR and writes nothing. -/
def Obligations.StoreDecimalDigits : Prop :=
  ∀ (x : Nibble) (s : State),
    decodeWord (0xF#4 ++ x ++ 0x33#8) = .instr (.ldB x) ∧
    (MemoryCanonical s → AccessOk s 3 true → ∃ t, exec (.ldB x) s = .next t ∧
      (t.readByte s.i.toNat).toNat = (s.getV x).toNat / 100 ∧
      (t.readByte (s.i.toNat + 1)).toNat = (s.getV x).toNat / 10 % 10 ∧
      (t.readByte (s.i.toNat + 2)).toNat = (s.getV x).toNat % 10 ∧
      BytesKept s.i.toNat 3 s t ∧ t.pc = s.pc + 2 ∧ Frame [.memory, .pc] s t) ∧
    (¬ AccessOk s 3 true → ∃ t, exec (.ldB x) s = .next t ∧
      FaultEffect s t .addressError (0xF#4 ++ x ++ 0x33#8))

/-- R164: LD [I], VX stores V0..VX at I..I+X and then moves I by LDST_I_MODE, or raises ADDRESS_ERROR and writes nothing. -/
def Obligations.StoreRegistersAtIndex : Prop :=
  ∀ (x : Nibble) (s : State),
    decodeWord (0xF#4 ++ x ++ 0x55#8) = .instr (.storeRegs x) ∧
    (MemoryCanonical s → AccessOk s (x.toNat + 1) true → loadStoreIndex s x ≤ 0x0FFF →
      ∃ t, exec (.storeRegs x) s = .next t ∧
        (∀ j : Nibble, j.toNat ≤ x.toNat → t.readByte (s.i.toNat + j.toNat) = s.getV j) ∧
        BytesKept s.i.toNat (x.toNat + 1) s t ∧ t.i.toNat = loadStoreIndex s x ∧ t.pc = s.pc + 2 ∧
        Frame [.memory, .index, .pc] s t) ∧
    (¬ (AccessOk s (x.toNat + 1) true ∧ loadStoreIndex s x ≤ 0x0FFF) → ∃ t, exec (.storeRegs x) s = .next t ∧
      FaultEffect s t .addressError (0xF#4 ++ x ++ 0x55#8))

/-- R165: LD VX, [I] loads V0..VX from I..I+X and then moves I by LDST_I_MODE, or raises ADDRESS_ERROR and writes nothing. -/
def Obligations.LoadRegistersFromIndex : Prop :=
  ∀ (x : Nibble) (s : State),
    decodeWord (0xF#4 ++ x ++ 0x65#8) = .instr (.loadRegs x) ∧
    (AccessOk s (x.toNat + 1) false → loadStoreIndex s x ≤ 0x0FFF →
      ∃ t, exec (.loadRegs x) s = .next t ∧
        (∀ j : Nibble, t.getV j = if j.toNat ≤ x.toNat then s.readByte (s.i.toNat + j.toNat) else s.getV j) ∧
        t.i.toNat = loadStoreIndex s x ∧ t.pc = s.pc + 2 ∧ Frame [.regs, .index, .pc] s t) ∧
    (¬ (AccessOk s (x.toNat + 1) false ∧ loadStoreIndex s x ≤ 0x0FFF) → ∃ t, exec (.loadRegs x) s = .next t ∧
      FaultEffect s t .addressError (0xF#4 ++ x ++ 0x65#8))

/-! ### Display -/

/-- R180: CLS turns every pixel off; display_changed is not set by it. -/
def Obligations.ClearScreen : Prop :=
  ∀ s : State, decodeWord 0x00E0 = .instr .cls ∧
    ∃ t, exec .cls s = .next t ∧ (∀ x y, t.pixel x y = false) ∧ t.pc = s.pc + 2 ∧ Frame [.screen, .pc] s t

/-- R181 to R184: DRW toggles exactly the pixels its sprite lights, and VF says whether one of them was on. With a sprite byte
above 0xFFF, those of clipped rows included, it raises ADDRESS_ERROR and draws nothing. -/
def Obligations.DrawTogglesSpritePixels : Prop :=
  ∀ (x y n : Nibble) (s : State),
    decodeWord (0xD#4 ++ x ++ y ++ n) = .instr (.drw x y n) ∧
    (SpriteInMemory s n.toNat → ∃ t, exec (.drw x y n) s = .next t ∧
      (∀ px py, px < 64 → py < 32 →
        (t.pixel px py = true ↔
          ¬ (s.pixel px py = true ↔ SpriteLit s ((s.getV x).toNat % 64) ((s.getV y).toNat % 32) n.toNat px py))) ∧
      (t.getV 0xF = 1 ∨ t.getV 0xF = 0) ∧
      (t.getV 0xF = 1 ↔ ∃ px py, px < 64 ∧ py < 32 ∧ s.pixel px py = true ∧
        SpriteLit s ((s.getV x).toNat % 64) ((s.getV y).toNat % 32) n.toNat px py) ∧
      RegsKept [0xF] s t ∧ t.displayChanged = true ∧ t.pc = s.pc + 2 ∧
      Frame [.regs, .screen, .displayFlag, .pc] s t) ∧
    (¬ SpriteInMemory s n.toNat → ∃ t, exec (.drw x y n) s = .next t ∧
      FaultEffect s t .addressError (0xD#4 ++ x ++ y ++ n))

/-- R185: DRW with N = 0 draws nothing, checks nothing, clears VF and sets display_changed, whatever I is. -/
def Obligations.DrawNoRows : Prop :=
  ∀ (x y : Nibble) (s : State), ∃ t, exec (.drw x y 0) s = .next t ∧
    t.getV 0xF = 0 ∧ RegsKept [0xF] s t ∧ t.displayChanged = true ∧ t.pc = s.pc + 2 ∧
    Frame [.regs, .displayFlag, .pc] s t

/-- R186: drawing the same sprite at the same place twice restores the frame buffer, and the second draw reports VF = 1 exactly
when the sprite covers a pixel that was off before the first. -/
def Obligations.DrawTwiceRestores : Prop :=
  ∀ (x y n : Nibble) (s t u : State), SpriteInMemory s n.toNat →
    exec (.drw x y n) s = .next t → exec (.drw x y n) t = .next u →
    (t.getV x).toNat % 64 = (s.getV x).toNat % 64 → (t.getV y).toNat % 32 = (s.getV y).toNat % 32 →
    (∀ px py, px < 64 → py < 32 → u.pixel px py = s.pixel px py) ∧
    (u.getV 0xF = 1 ↔ ∃ px py, px < 64 ∧ py < 32 ∧ s.pixel px py = false ∧
      SpriteLit s ((s.getV x).toNat % 64) ((s.getV y).toNat % 32) n.toNat px py)

/-! ### Random, keypad, timers -/

/-- R201: RND VX, NN writes the STEP's random byte masked by NN, whatever the byte is. -/
def Obligations.RandomByteMasked : Prop :=
  ∀ (x : Nibble) (nn : Byte) (s : State), decodeWord (0xC#4 ++ x ++ nn) = .instr (.rnd x nn) ∧
    ∃ t, exec (.rnd x nn) s = .next t ∧ RegEffect s t x (s.rand &&& nn) ∧ t.getV x &&& ~~~nn = 0

/-- R205, R206: the key skips, by the low nibble of V[X]. -/
def Obligations.KeySkips : Prop :=
  ∀ (x : Nibble) (s : State),
    decodeWord (0xE#4 ++ x ++ 0x9E#8) = .instr (.skp x) ∧ decodeWord (0xE#4 ++ x ++ 0xA1#8) = .instr (.sknp x) ∧
    (∃ t, exec (.skp x) s = .next t ∧
      PcEffect s t (if s.keys.getLsbD ((s.getV x).toNat % 16) = true then s.pc + 4 else s.pc + 2)) ∧
    (∃ t, exec (.sknp x) s = .next t ∧
      PcEffect s t (if s.keys.getLsbD ((s.getV x).toNat % 16) = false then s.pc + 4 else s.pc + 2))

/-- R207: LD VX, K sets the key-wait latch and leaves PC where it is. -/
def Obligations.KeyWaitStarts : Prop :=
  ∀ (x : Nibble) (s : State), decodeWord (0xF#4 ++ x ++ 0x0A#8) = .instr (.ldVxK x) ∧
    ∃ t, exec (.ldVxK x) s = .next t ∧
    t.awaiting = true ∧ t.awaitX = x ∧ t.keyBase = s.keys ∧ Frame [.keyWait] s t

/-- R94: a STEP while the latch is set fetches nothing. The least new key completes the wait; without a new key only the
baseline moves. -/
def Obligations.WaitingStepPollsKeys : Prop :=
  ∀ (s : State) (k : Word) (b : Byte) (rest : List HostCommand),
    s.pending = .step k b :: rest → s.faultCode = .none → s.awaiting = true →
    ∃ t, step s = .next t ∧ t.keyBase = k ∧ t.awaitX = s.awaitX ∧
      (∀ j, j < 16 → NewKey k s.keyBase j → (∀ j', j' < j → ¬ NewKey k s.keyBase j') →
        t.awaiting = false ∧ (t.getV s.awaitX).toNat = j ∧ RegsKept [s.awaitX] s t ∧ t.pc = s.pc + 2) ∧
      ((∀ j, j < 16 → ¬ NewKey k s.keyBase j) →
        t.awaiting = true ∧ RegsKept [] s t ∧ t.pc = s.pc) ∧
      Frame [.regs, .pc, .keyWait] (stepStart s k b rest) t

/-- R220 to R222: the timer reads and writes; FX18 with a value above 0 raises the output tone. -/
def Obligations.TimerInstructions : Prop :=
  ∀ (x : Nibble) (s : State),
    decodeWord (0xF#4 ++ x ++ 0x07#8) = .instr (.ldVxDt x) ∧ decodeWord (0xF#4 ++ x ++ 0x15#8) = .instr (.ldDtVx x) ∧
    decodeWord (0xF#4 ++ x ++ 0x18#8) = .instr (.ldStVx x) ∧
    (∃ t, exec (.ldVxDt x) s = .next t ∧ RegEffect s t x s.dt) ∧
    (∃ t, exec (.ldDtVx x) s = .next t ∧
      t.dt = s.getV x ∧ t.st = s.st ∧ t.pc = s.pc + 2 ∧ Frame [.timers, .pc] s t) ∧
    (∃ t, exec (.ldStVx x) s = .next t ∧
      t.st = s.getV x ∧ (t.outputs.tone = true ↔ s.getV x ≠ 0) ∧ t.dt = s.dt ∧ t.pc = s.pc + 2 ∧
      Frame [.timers, .pc] s t)

/-! ### The STEP transaction -/

/-- R90, R92, R95: a STEP that fetches runs exec of the instruction its word decodes to, from the state with display_changed
cleared and the inputs sampled. -/
def Obligations.StepRunsDecodedInstruction : Prop :=
  ∀ (s : State) (k : Word) (b : Byte) (rest : List HostCommand) (i : Instr),
    s.pending = .step k b :: rest → Fetches s → decodeWord (wordAtPc s) = .instr i →
    step s = exec i (stepStart s k b rest)

/-- The same for a STEP that the host's list does not give: the model's choice of log entries 2 and 3, its inputs being free values. -/
def Obligations.UnlistedStepRunsDecodedInstruction : Prop :=
  ∀ (s : State) (i : Instr), s.pending = [] → Fetches s → decodeWord (wordAtPc s) = .instr i →
    step s = exec i { stepStart s (Config.freeKeys s.draws) (Config.freeRand s.draws) [] with draws := s.draws + 1 }

/-- R98: while halted, a STEP does nothing but clear display_changed. What it reports is left open (log entry 4). -/
def Obligations.HaltedStepDoesNothing : Prop :=
  ∀ (s : State) (k : Word) (b : Byte) (rest : List HostCommand),
    s.pending = .step k b :: rest → s.faultCode ≠ .none →
    ∃ t, step s = .next t ∧ t = { stepStart s k b rest with report := t.report }

/-- R92: a STEP with PC above 0x0FFE raises ADDRESS_ERROR with word 0x0000 and changes no other state. -/
def Obligations.FetchOutOfRangeFaults : Prop :=
  ∀ (s : State) (k : Word) (b : Byte) (rest : List HostCommand),
    s.pending = .step k b :: rest → s.faultCode = .none → s.awaiting = false → s.pc.toNat > 0x0FFE →
    ∃ t, step s = .next t ∧ FaultEffect (stepStart s k b rest) t .addressError 0x0000

/-- R93: a STEP that fetches an unknown word raises UNKNOWN_OPCODE with that word and changes no other state. -/
def Obligations.UnknownWordFaults : Prop :=
  ∀ (s : State) (k : Word) (b : Byte) (rest : List HostCommand) (w : Word),
    s.pending = .step k b :: rest → Fetches s → decodeWord (wordAtPc s) = .unknown w →
    w = wordAtPc s ∧ ∃ t, step s = .next t ∧ FaultEffect (stepStart s k b rest) t .unknownOpcode w

/-! ### The other commands -/

/-- R260: POWER_ON creates the state, with memory 0x00 except the font table at FONT_BASE. -/
def Obligations.PowerOnCreatesState : Prop :=
  ∀ (s : State) (rest : List HostCommand), s.pending = .powerOn :: rest →
    ∃ t, step s = .next t ∧ FreshCore t ∧
      (∀ d r, d < 16 → r < 5 → t.readByte (s.cfg.fontBase.val + 5 * d + r) = fontByte d r) ∧
      (∀ a, a < s.cfg.fontBase.val ∨ s.cfg.fontBase.val + 80 ≤ a → t.readByte a = 0x00) ∧
      Part.params.same s t

/-- R261: RESET restores everything but memory, which it does not touch, and is idempotent. -/
def Obligations.ResetKeepsMemory : Prop :=
  ∀ (s : State) (rest : List HostCommand), s.pending = .reset :: rest →
    ∃ t, step s = .next t ∧ FreshCore t ∧ (∀ a, t.readByte a = s.readByte a) ∧ Part.params.same s t ∧
      step { t with pending := .reset :: rest } = .next t

/-- R262: LOAD of a ROM that fits is POWER_ON and then the copy to 0x200, and it reports OK. -/
def Obligations.LoadCopiesRom : Prop :=
  ∀ (s : State) (rom : List Byte) (rest : List HostCommand), s.pending = .load rom :: rest → rom.length ≤ 3584 →
    ∃ t, step s = .next t ∧ FreshCore t ∧
      (∀ (j : Nat) (h : j < rom.length), t.readByte (0x200 + j) = rom[j]) ∧
      (∀ d r, d < 16 → r < 5 → t.readByte (s.cfg.fontBase.val + 5 * d + r) = fontByte d r) ∧
      (∀ a, a < s.cfg.fontBase.val ∨ (s.cfg.fontBase.val + 80 ≤ a ∧ a < 0x200) ∨ 0x200 + rom.length ≤ a →
        t.readByte a = 0x00) ∧
      t.report = .none ∧ Part.params.same s t

/-- R263: LOAD of a longer ROM raises OUT_OF_SPACE with word 0x0000 and changes no other state. -/
def Obligations.LoadTooLongFaults : Prop :=
  ∀ (s : State) (rom : List Byte) (rest : List HostCommand), s.pending = .load rom :: rest → 3584 < rom.length →
    ∃ t, step s = .next t ∧ FaultEffect (commandStart s rest) t .outOfSpace 0x0000

/-- R240: TICK takes one from each timer that is above 0, waiting or not, and nothing while halted.
What it reports is left open (log entry 4). -/
def Obligations.TickCountsDown : Prop :=
  ∀ (s : State) (rest : List HostCommand), s.pending = .tick :: rest →
    ∃ t, step s = .next t ∧ t.displayChanged = false ∧
      (s.faultCode = .none → t.dt.toNat = s.dt.toNat - 1 ∧ t.st.toNat = s.st.toNat - 1) ∧
      (s.faultCode ≠ .none → t.dt = s.dt ∧ t.st = s.st) ∧
      Frame [.timers, .report] (commandStart s rest) t

/-! ### The reset state and the ports -/

/-- R40, R260: the reset state of the model is the POWER_ON column, with the parameters of R6 at their defaults. -/
def Obligations.ResetStateIsPowerOn : Prop :=
  FreshCore State.reset ∧ State.reset.cfg = ⟨0x050, .ignore, .vx, .unchanged, .v0, .clear, .fault⟩ ∧
  (∀ d r, d < 16 → r < 5 → State.reset.readByte (0x050 + 5 * d + r) = fontByte d r) ∧
  (∀ a, a < 0x050 ∨ 0x0A0 ≤ a → State.reset.readByte a = 0x00)

/-- R9: the output ports. Pixel (x, y) is bit y*64 + x of fb, tone is ST ≠ 0. -/
def Obligations.OutputPorts : Prop :=
  ∀ s : State,
    (∀ x y, x < 64 → y < 32 → s.outputs.fb.getLsbD (y * 64 + x) = s.pixel x y) ∧
    s.outputs.displayChanged = s.displayChanged ∧ s.outputs.dtOut = s.dt ∧ s.outputs.stOut = s.st ∧
    (s.outputs.tone = true ↔ s.st ≠ 0) ∧ s.outputs.awaitingKey = s.awaiting ∧
    (s.outputs.faultCode = 0 ↔ s.faultCode = .none) ∧ s.outputs.faultCode.toNat ≤ 5 ∧
    s.outputs.faultPc = s.faultPc ∧ s.outputs.faultWord = s.faultWord

/-! ### Rules of the whole machine -/

/-- Every command completes: no state and no command ends the machine. It is taken off the host's list, and a STEP that the list
does not give takes a free draw (the model's choices of log entries 2 and 3). -/
def Obligations.EveryCommandCompletes : Prop :=
  ∀ s : State, ∃ t, step s = .next t ∧ t.pending = s.pending.tail ∧
    t.draws = if s.pending = [] then s.draws + 1 else s.draws

/-- R230: an instruction raises exactly the fault the table gives it in that state, and no other instruction can fault. -/
def Obligations.FaultsAreThoseOfTheTable : Prop :=
  ∀ (i : Instr) (s : State), ∃ t, exec i s = .next t ∧
    (tableFault i s = .none → Part.faultRecord.same s t) ∧
    (tableFault i s ≠ .none → FaultEffect s t (tableFault i s) (encode i))

/-- R96: a STEP that raises a fault changes nothing but the fault record; PC stays at the faulting instruction. -/
def Obligations.FaultingStepIsPrecise : Prop :=
  ∀ (s t : State) (k : Word) (b : Byte) (rest : List HostCommand),
    s.pending = .step k b :: rest → s.faultCode = .none → step s = .next t → t.faultCode ≠ .none →
    FaultEffect (stepStart s k b rest) t t.faultCode t.faultWord

/-- R23: the instructions that write I; FX55 and FX65 do so only when LDST_I_MODE is not UNCHANGED. -/
def Obligations.IndexWrittenByListedOnly : Prop :=
  ∀ (i : Instr) (s t : State), exec i s = .next t → t.i ≠ s.i →
    (∃ nnn, i = .ldI nnn) ∨ (∃ x, i = .addI x) ∨ (∃ x, i = .ldF x) ∨
    (s.cfg.ldstIMode ≠ .unchanged ∧ ((∃ x, i = .storeRegs x) ∨ (∃ x, i = .loadRegs x)))

/-- R21: an instruction that is neither a flag writer nor aimed at VF leaves VF alone. -/
def Obligations.VFKeptByOtherInstructions : Prop :=
  ∀ (i : Instr) (s t : State), exec i s = .next t → mayWriteVF i s = false → t.getV 0xF = s.getV 0xF

/-- R51: of the instructions only FX33 and FX55 write memory. -/
def Obligations.MemoryWrittenByStoresOnly : Prop :=
  ∀ (i : Instr) (s t : State), exec i s = .next t →
    t.mem = s.mem ∨ (∃ x, i = .ldB x) ∨ (∃ x, i = .storeRegs x)

/-- R97: a STEP changes DT only by FX15 and ST only by FX18. -/
def Obligations.StepKeepsTimers : Prop :=
  ∀ (s t : State) (k : Word) (b : Byte) (rest : List HostCommand),
    s.pending = .step k b :: rest → step s = .next t →
    (t.dt = s.dt ∨ ∃ x, decodeWord (wordAtPc s) = .instr (.ldDtVx x)) ∧
    (t.st = s.st ∨ ∃ x, decodeWord (wordAtPc s) = .instr (.ldStVx x))

/-- R187: after any command, display_changed is 1 exactly when the command was a STEP that executed DXYN. -/
def Obligations.DisplayChangedByDrawOnly : Prop :=
  ∀ (s t : State) (c : HostCommand) (rest : List HostCommand), s.pending = c :: rest → step s = .next t →
    (t.displayChanged = true ↔
      (∃ k b, c = .step k b) ∧ Fetches s ∧
        ∃ x y n, decodeWord (wordAtPc s) = .instr (.drw x y n) ∧ SpriteInMemory s n.toNat)

/-- R200, R101: no instruction but CXNN reads the random byte. -/
def Obligations.RandomByteReadByRndOnly : Prop :=
  ∀ (i : Instr) (s t : State) (b : Byte), (∀ x nn, i ≠ .rnd x nn) → exec i s = .next t →
    exec i { s with rand := b } = .next { t with rand := b }

/-- R239, R243: no instruction but EX9E, EXA1 and FX0A reads the keypad. -/
def Obligations.KeysReadByKeyInstructionsOnly : Prop :=
  ∀ (i : Instr) (s t : State) (k : Word), (∀ x, i ≠ .skp x ∧ i ≠ .sknp x ∧ i ≠ .ldVxK x) → exec i s = .next t →
    exec i { s with keys := k } = .next { t with keys := k }

/-! ### Invariants that every step keeps -/

/-- R6: no command changes the implementation parameters. -/
def Obligations.StepKeepsParameters : Prop := ∀ s t : State, step s = .next t → t.cfg = s.cfg

/-- R50: memory stays in canonical form, below 4096. -/
def Obligations.StepKeepsMemoryCanonical : Prop :=
  ∀ s t : State, MemoryCanonical s → step s = .next t → MemoryCanonical t

/-- R24: I never exceeds 0x0FFF. -/
def Obligations.StepKeepsIndexInRange : Prop :=
  ∀ s t : State, IndexInRange s → step s = .next t → IndexInRange t

/-- R26, R118: PC never wraps. -/
def Obligations.StepKeepsPcInRange : Prop :=
  ∀ s t : State, PcInRange s → step s = .next t → PcInRange t

/-- R37, R231, R232: the fault record stays consistent. -/
def Obligations.StepKeepsFaultRecordConsistent : Prop :=
  ∀ s t : State, FaultRecordConsistent s → step s = .next t → FaultRecordConsistent t

/-- R57: under RESERVED_WRITE = FAULT no command changes what 0x000..0x1FF, the font included, held at power-on. -/
def Obligations.StepKeepsLowMemoryIntact : Prop :=
  ∀ s t : State, LowMemoryIntact s → step s = .next t → LowMemoryIntact t

/-- The reset state meets every invariant. -/
def Obligations.ResetMeetsInvariants : Prop :=
  MemoryCanonical State.reset ∧ IndexInRange State.reset ∧ PcInRange State.reset ∧
  FaultRecordConsistent State.reset ∧ LowMemoryIntact State.reset
end

