-- ==== Sys2Proof/Laws/Decode.lean ====
section
/-! SUPPORT. The fields of an encoded word are the fields it was made of (30_encoding.md R72). -/

namespace Sys2Proof

/-- Concatenation as arithmetic. -/
theorem toNat_append_add {m n : Nat} (a : BitVec m) (b : BitVec n) : (a ++ b).toNat = a.toNat * 2 ^ n + b.toNat := by
  rw [BitVec.toNat_append, ← Nat.shiftLeft_add_eq_or_of_lt b.isLt, Nat.shiftLeft_eq]

theorem toNat_wordNNN (op : Nibble) (nnn : Addr) : (wordNNN op nnn).toNat = op.toNat * 4096 + nnn.toNat :=
  toNat_append_add op nnn

theorem toNat_wordXNN (op x : Nibble) (nn : Byte) :
    (wordXNN op x nn).toNat = op.toNat * 4096 + x.toNat * 256 + nn.toNat := by
  rw [wordXNN, toNat_append_add, toNat_append_add]
  omega

theorem toNat_wordXYN (op x y n : Nibble) :
    (wordXYN op x y n).toNat = op.toNat * 4096 + x.toNat * 256 + y.toNat * 16 + n.toNat := by
  rw [wordXYN, toNat_append_add, toNat_append_add, toNat_append_add]
  omega

@[simp] theorem fieldOp_wordNNN (op : Nibble) (nnn : Addr) : fieldOp (wordNNN op nnn) = op := by
  apply BitVec.eq_of_toNat_eq
  simp only [fieldOp, BitVec.extractLsb'_toNat, toNat_wordNNN, Nat.shiftRight_eq_div_pow]
  omega

@[simp] theorem fieldNNN_wordNNN (op : Nibble) (nnn : Addr) : fieldNNN (wordNNN op nnn) = nnn := by
  apply BitVec.eq_of_toNat_eq
  simp only [fieldNNN, BitVec.extractLsb'_toNat, toNat_wordNNN, Nat.shiftRight_eq_div_pow]
  omega

@[simp] theorem fieldOp_wordXNN (op x : Nibble) (nn : Byte) : fieldOp (wordXNN op x nn) = op := by
  apply BitVec.eq_of_toNat_eq
  simp only [fieldOp, BitVec.extractLsb'_toNat, toNat_wordXNN, Nat.shiftRight_eq_div_pow]
  omega

@[simp] theorem fieldX_wordXNN (op x : Nibble) (nn : Byte) : fieldX (wordXNN op x nn) = x := by
  apply BitVec.eq_of_toNat_eq
  simp only [fieldX, BitVec.extractLsb'_toNat, toNat_wordXNN, Nat.shiftRight_eq_div_pow]
  omega

@[simp] theorem fieldNN_wordXNN (op x : Nibble) (nn : Byte) : fieldNN (wordXNN op x nn) = nn := by
  apply BitVec.eq_of_toNat_eq
  simp only [fieldNN, BitVec.extractLsb'_toNat, toNat_wordXNN, Nat.shiftRight_eq_div_pow]
  omega

@[simp] theorem fieldOp_wordXYN (op x y n : Nibble) : fieldOp (wordXYN op x y n) = op := by
  apply BitVec.eq_of_toNat_eq
  simp only [fieldOp, BitVec.extractLsb'_toNat, toNat_wordXYN, Nat.shiftRight_eq_div_pow]
  omega

@[simp] theorem fieldX_wordXYN (op x y n : Nibble) : fieldX (wordXYN op x y n) = x := by
  apply BitVec.eq_of_toNat_eq
  simp only [fieldX, BitVec.extractLsb'_toNat, toNat_wordXYN, Nat.shiftRight_eq_div_pow]
  omega

@[simp] theorem fieldY_wordXYN (op x y n : Nibble) : fieldY (wordXYN op x y n) = y := by
  apply BitVec.eq_of_toNat_eq
  simp only [fieldY, BitVec.extractLsb'_toNat, toNat_wordXYN, Nat.shiftRight_eq_div_pow]
  omega

@[simp] theorem fieldN_wordXYN (op x y n : Nibble) : fieldN (wordXYN op x y n) = n := by
  apply BitVec.eq_of_toNat_eq
  simp only [fieldN, BitVec.extractLsb'_toNat, toNat_wordXYN, Nat.shiftRight_eq_div_pow]
  omega

/-- The two bytes of a word, in memory's order, make the word again (20_memory.md R52). -/
@[simp] theorem wordOfBytes_bytes (w : Word) : wordOfBytes (highByte w) (lowByte w) = w := by
  apply BitVec.eq_of_toNat_eq
  simp only [wordOfBytes, highByte, lowByte, toNat_append_add, BitVec.extractLsb'_toNat, Nat.shiftRight_eq_div_pow]
  omega

end Sys2Proof
end

