-- ==== Sys2Proof/Laws/Memory.lean ====
section
/-! SUPPORT. The laws of memory: a read after a write, and that every operation keeps the canonical form. -/

namespace Sys2Proof.Machine

variable {fb : Fin 433}

/-! ### Reads -/

theorem Memory.read_put (m : Memory) (a : Nat) (b : Byte) (a' : Nat) :
    Memory.read fb (Memory.put m a b) a' = if a' = a then b else Memory.read fb m a' := by
  induction m with
  | nil => simp [Memory.put, Memory.read]
  | cons c rest ih =>
    obtain ⟨c, d⟩ := c
    simp only [Memory.put]
    split
    · simp [Memory.read]
    · split
      · subst_vars
        simp only [Memory.read]
        split <;> rfl
      · simp only [Memory.read, ih]
        split <;> split <;> simp_all

theorem Memory.read_drop_other (m : Memory) {a a' : Nat} (h : a' ≠ a) :
    Memory.read fb (Memory.drop m a) a' = Memory.read fb m a' := by
  induction m with
  | nil => rfl
  | cons c rest ih =>
    obtain ⟨c, d⟩ := c
    simp only [Memory.drop]
    split
    · subst_vars
      simp [Memory.read, h]
    · simp [Memory.read, ih]

/-- A write leaves every other address alone, in every memory. -/
theorem Memory.read_write_other (m : Memory) {a a' : Nat} (b : Byte) (h : a' ≠ a) :
    Memory.read fb (Memory.write fb m a b) a' = Memory.read fb m a' := by
  unfold Memory.write
  split
  · exact Memory.read_drop_other m h
  · simp [Memory.read_put, h]

/-! ### The canonical form -/

theorem Memory.wfFrom_cons {lo a : Nat} {b : Byte} {rest : Memory} :
    Memory.wfFrom fb lo ((a, b) :: rest) = true ↔
      lo ≤ a ∧ a < Config.memSize ∧ b ≠ powerOnByte fb a ∧ Memory.wfFrom fb (a + 1) rest = true := by
  simp [Memory.wfFrom, and_assoc]

theorem Memory.wfFrom_mono {lo lo' : Nat} {m : Memory} (h : lo' ≤ lo) (hm : Memory.wfFrom fb lo m = true) :
    Memory.wfFrom fb lo' m = true := by
  cases m with
  | nil => rfl
  | cons c rest =>
    rw [Memory.wfFrom_cons] at hm ⊢
    exact ⟨by omega, hm.2⟩

/-- An address below every listed one reads as its power-on content. -/
theorem Memory.read_of_wfFrom_lt {lo a : Nat} {m : Memory} (hm : Memory.wfFrom fb lo m = true) (h : a < lo) :
    Memory.read fb m a = powerOnByte fb a := by
  induction m generalizing lo with
  | nil => rfl
  | cons c rest ih =>
    obtain ⟨c, d⟩ := c
    rw [Memory.wfFrom_cons] at hm
    have hne : a ≠ c := by omega
    simp only [Memory.read, hne, if_false]
    exact ih hm.2.2.2 (by omega)

theorem Memory.read_drop_same {lo : Nat} {m : Memory} (hm : Memory.wfFrom fb lo m = true) (a : Nat) :
    Memory.read fb (Memory.drop m a) a = powerOnByte fb a := by
  induction m generalizing lo with
  | nil => rfl
  | cons c rest ih =>
    obtain ⟨c, d⟩ := c
    rw [Memory.wfFrom_cons] at hm
    simp only [Memory.drop]
    split
    · subst_vars
      exact Memory.read_of_wfFrom_lt hm.2.2.2 (by omega)
    · simp only [Memory.read, if_neg ‹¬a = c›]
      exact ih hm.2.2.2

/-- In a canonical memory, a read after a write to the same address gives the byte written. -/
theorem Memory.read_write_same {m : Memory} (hm : Memory.wf fb m = true) (a : Nat) (b : Byte) :
    Memory.read fb (Memory.write fb m a b) a = b := by
  unfold Memory.write
  split
  · subst_vars
    exact Memory.read_drop_same hm a
  · simp [Memory.read_put]

theorem Memory.wfFrom_drop {lo : Nat} {m : Memory} (hm : Memory.wfFrom fb lo m = true) (a : Nat) :
    Memory.wfFrom fb lo (Memory.drop m a) = true := by
  induction m generalizing lo with
  | nil => rfl
  | cons c rest ih =>
    obtain ⟨c, d⟩ := c
    rw [Memory.wfFrom_cons] at hm
    simp only [Memory.drop]
    split
    · exact Memory.wfFrom_mono (by omega) hm.2.2.2
    · exact Memory.wfFrom_cons.2 ⟨hm.1, hm.2.1, hm.2.2.1, ih hm.2.2.2⟩

theorem Memory.wfFrom_put {lo a : Nat} {b : Byte} {m : Memory} (hm : Memory.wfFrom fb lo m = true)
    (hlo : lo ≤ a) (ha : a < Config.memSize) (hb : b ≠ powerOnByte fb a) :
    Memory.wfFrom fb lo (Memory.put m a b) = true := by
  induction m generalizing lo with
  | nil => exact Memory.wfFrom_cons.2 ⟨hlo, ha, hb, rfl⟩
  | cons c rest ih =>
    obtain ⟨c, d⟩ := c
    have hm' := Memory.wfFrom_cons.1 hm
    simp only [Memory.put]
    split
    · exact Memory.wfFrom_cons.2 ⟨hlo, ha, hb, Memory.wfFrom_cons.2 ⟨by omega, hm'.2⟩⟩
    · split
      · subst_vars
        exact Memory.wfFrom_cons.2 ⟨hlo, ha, hb, hm'.2.2.2⟩
      · exact Memory.wfFrom_cons.2 ⟨hm'.1, hm'.2.1, hm'.2.2.1, ih hm'.2.2.2 (by omega)⟩

theorem Memory.wf_nil : Memory.wf fb [] = true := rfl

/-- A write below 4096 keeps the canonical form. -/
theorem Memory.wf_write {m : Memory} (hm : Memory.wf fb m = true) {a : Nat} (ha : a < Config.memSize) (b : Byte) :
    Memory.wf fb (Memory.write fb m a b) = true := by
  unfold Memory.write
  split
  · exact Memory.wfFrom_drop hm a
  · exact Memory.wfFrom_put hm (Nat.zero_le a) ha ‹_›

/-- The canonical form is canonical: two canonical memories that read the same are equal. -/
theorem Memory.wfFrom_ext {lo : Nat} {m m' : Memory} (hm : Memory.wfFrom fb lo m = true)
    (hm' : Memory.wfFrom fb lo m' = true) (h : ∀ a, Memory.read fb m a = Memory.read fb m' a) : m = m' := by
  induction m generalizing lo m' with
  | nil =>
    cases m' with
    | nil => rfl
    | cons c rest =>
      obtain ⟨c, d⟩ := c
      have h' := Memory.wfFrom_cons.1 hm'
      exact absurd (by simpa [Memory.read] using (h c).symm) h'.2.2.1
  | cons c rest ih =>
    obtain ⟨c, d⟩ := c
    have hc := Memory.wfFrom_cons.1 hm
    cases m' with
    | nil => exact absurd (by simpa [Memory.read] using h c) hc.2.2.1
    | cons c' rest' =>
      obtain ⟨c', d'⟩ := c'
      have hc' := Memory.wfFrom_cons.1 hm'
      have hcc : c = c' := by
        rcases Nat.lt_trichotomy c c' with hlt | heq | hgt
        · have := h c
          rw [Memory.read_of_wfFrom_lt (lo := c') (Memory.wfFrom_cons.2 ⟨Nat.le_refl _, hc'.2⟩) hlt] at this
          exact absurd (by simpa [Memory.read] using this) hc.2.2.1
        · exact heq
        · have := h c'
          rw [Memory.read_of_wfFrom_lt (lo := c) (Memory.wfFrom_cons.2 ⟨Nat.le_refl _, hc.2⟩) hgt] at this
          exact absurd (by simpa [Memory.read] using this.symm) hc'.2.2.1
      subst hcc
      have hd : d = d' := by simpa [Memory.read] using h c
      subst hd
      congr 1
      refine ih hc.2.2.2 hc'.2.2.2 fun a => ?_
      by_cases ha : a = c
      · subst ha
        rw [Memory.read_of_wfFrom_lt hc.2.2.2 (Nat.lt_succ_self a), Memory.read_of_wfFrom_lt hc'.2.2.2 (Nat.lt_succ_self a)]
      · simpa [Memory.read, ha] using h a

/-! ### The same at the level of the state -/

theorem State.readByte_writeByte_other (s : State) {a a' : Nat} (b : Byte) (h : a' ≠ a) :
    (s.writeByte a b).readByte a' = s.readByte a' :=
  Memory.read_write_other s.mem b h

theorem State.readByte_writeByte_same {s : State} (hm : Memory.wf s.cfg.fontBase s.mem = true) (a : Nat) (b : Byte) :
    (s.writeByte a b).readByte a = b :=
  Memory.read_write_same hm a b

theorem State.wf_writeByte {s : State} (hm : Memory.wf s.cfg.fontBase s.mem = true) {a : Nat} (ha : a < Config.memSize) (b : Byte) :
    Memory.wf (s.writeByte a b).cfg.fontBase (s.writeByte a b).mem = true :=
  Memory.wf_write hm ha b

end Sys2Proof.Machine
end

