-- ==== Sys2Proof/Laws/State.lean ====
section
/-! SUPPORT. One lemma per field per update of the state, true by unfolding once, so that no later proof unfolds an update. -/

namespace Sys2Proof.Machine

/-! ### setV -/

@[simp] theorem State.setV_v (s : State) (x : Nibble) (b : Byte) :
    (s.setV x b).v = s.v.set x.toNat b := rfl
@[simp] theorem State.setV_i (s : State) (x : Nibble) (b : Byte) :
    (s.setV x b).i = s.i := rfl
@[simp] theorem State.setV_pc (s : State) (x : Nibble) (b : Byte) :
    (s.setV x b).pc = s.pc := rfl
@[simp] theorem State.setV_stack (s : State) (x : Nibble) (b : Byte) :
    (s.setV x b).stack = s.stack := rfl
@[simp] theorem State.setV_sp (s : State) (x : Nibble) (b : Byte) :
    (s.setV x b).sp = s.sp := rfl
@[simp] theorem State.setV_dt (s : State) (x : Nibble) (b : Byte) :
    (s.setV x b).dt = s.dt := rfl
@[simp] theorem State.setV_st (s : State) (x : Nibble) (b : Byte) :
    (s.setV x b).st = s.st := rfl
@[simp] theorem State.setV_fb (s : State) (x : Nibble) (b : Byte) :
    (s.setV x b).fb = s.fb := rfl
@[simp] theorem State.setV_awaiting (s : State) (x : Nibble) (b : Byte) :
    (s.setV x b).awaiting = s.awaiting := rfl
@[simp] theorem State.setV_awaitX (s : State) (x : Nibble) (b : Byte) :
    (s.setV x b).awaitX = s.awaitX := rfl
@[simp] theorem State.setV_keyBase (s : State) (x : Nibble) (b : Byte) :
    (s.setV x b).keyBase = s.keyBase := rfl
@[simp] theorem State.setV_displayChanged (s : State) (x : Nibble) (b : Byte) :
    (s.setV x b).displayChanged = s.displayChanged := rfl
@[simp] theorem State.setV_faultCode (s : State) (x : Nibble) (b : Byte) :
    (s.setV x b).faultCode = s.faultCode := rfl
@[simp] theorem State.setV_faultPc (s : State) (x : Nibble) (b : Byte) :
    (s.setV x b).faultPc = s.faultPc := rfl
@[simp] theorem State.setV_faultWord (s : State) (x : Nibble) (b : Byte) :
    (s.setV x b).faultWord = s.faultWord := rfl
@[simp] theorem State.setV_mem (s : State) (x : Nibble) (b : Byte) :
    (s.setV x b).mem = s.mem := rfl
@[simp] theorem State.setV_cfg (s : State) (x : Nibble) (b : Byte) :
    (s.setV x b).cfg = s.cfg := rfl
@[simp] theorem State.setV_keys (s : State) (x : Nibble) (b : Byte) :
    (s.setV x b).keys = s.keys := rfl
@[simp] theorem State.setV_rand (s : State) (x : Nibble) (b : Byte) :
    (s.setV x b).rand = s.rand := rfl
@[simp] theorem State.setV_report (s : State) (x : Nibble) (b : Byte) :
    (s.setV x b).report = s.report := rfl
@[simp] theorem State.setV_pending (s : State) (x : Nibble) (b : Byte) :
    (s.setV x b).pending = s.pending := rfl
@[simp] theorem State.setV_draws (s : State) (x : Nibble) (b : Byte) :
    (s.setV x b).draws = s.draws := rfl
@[simp] theorem State.setV_readByte (s : State) (x : Nibble) (b : Byte) (a' : Nat) :
    (s.setV x b).readByte a' = s.readByte a' := rfl

/-! ### setVFlag -/

@[simp] theorem State.setVFlag_v (s : State) (x : Nibble) (b f : Byte) :
    (s.setVFlag x b f).v = (s.v.set x.toNat b).set 15 f := rfl
@[simp] theorem State.setVFlag_i (s : State) (x : Nibble) (b f : Byte) :
    (s.setVFlag x b f).i = s.i := rfl
@[simp] theorem State.setVFlag_pc (s : State) (x : Nibble) (b f : Byte) :
    (s.setVFlag x b f).pc = s.pc := rfl
@[simp] theorem State.setVFlag_stack (s : State) (x : Nibble) (b f : Byte) :
    (s.setVFlag x b f).stack = s.stack := rfl
@[simp] theorem State.setVFlag_sp (s : State) (x : Nibble) (b f : Byte) :
    (s.setVFlag x b f).sp = s.sp := rfl
@[simp] theorem State.setVFlag_dt (s : State) (x : Nibble) (b f : Byte) :
    (s.setVFlag x b f).dt = s.dt := rfl
@[simp] theorem State.setVFlag_st (s : State) (x : Nibble) (b f : Byte) :
    (s.setVFlag x b f).st = s.st := rfl
@[simp] theorem State.setVFlag_fb (s : State) (x : Nibble) (b f : Byte) :
    (s.setVFlag x b f).fb = s.fb := rfl
@[simp] theorem State.setVFlag_awaiting (s : State) (x : Nibble) (b f : Byte) :
    (s.setVFlag x b f).awaiting = s.awaiting := rfl
@[simp] theorem State.setVFlag_awaitX (s : State) (x : Nibble) (b f : Byte) :
    (s.setVFlag x b f).awaitX = s.awaitX := rfl
@[simp] theorem State.setVFlag_keyBase (s : State) (x : Nibble) (b f : Byte) :
    (s.setVFlag x b f).keyBase = s.keyBase := rfl
@[simp] theorem State.setVFlag_displayChanged (s : State) (x : Nibble) (b f : Byte) :
    (s.setVFlag x b f).displayChanged = s.displayChanged := rfl
@[simp] theorem State.setVFlag_faultCode (s : State) (x : Nibble) (b f : Byte) :
    (s.setVFlag x b f).faultCode = s.faultCode := rfl
@[simp] theorem State.setVFlag_faultPc (s : State) (x : Nibble) (b f : Byte) :
    (s.setVFlag x b f).faultPc = s.faultPc := rfl
@[simp] theorem State.setVFlag_faultWord (s : State) (x : Nibble) (b f : Byte) :
    (s.setVFlag x b f).faultWord = s.faultWord := rfl
@[simp] theorem State.setVFlag_mem (s : State) (x : Nibble) (b f : Byte) :
    (s.setVFlag x b f).mem = s.mem := rfl
@[simp] theorem State.setVFlag_cfg (s : State) (x : Nibble) (b f : Byte) :
    (s.setVFlag x b f).cfg = s.cfg := rfl
@[simp] theorem State.setVFlag_keys (s : State) (x : Nibble) (b f : Byte) :
    (s.setVFlag x b f).keys = s.keys := rfl
@[simp] theorem State.setVFlag_rand (s : State) (x : Nibble) (b f : Byte) :
    (s.setVFlag x b f).rand = s.rand := rfl
@[simp] theorem State.setVFlag_report (s : State) (x : Nibble) (b f : Byte) :
    (s.setVFlag x b f).report = s.report := rfl
@[simp] theorem State.setVFlag_pending (s : State) (x : Nibble) (b f : Byte) :
    (s.setVFlag x b f).pending = s.pending := rfl
@[simp] theorem State.setVFlag_draws (s : State) (x : Nibble) (b f : Byte) :
    (s.setVFlag x b f).draws = s.draws := rfl
@[simp] theorem State.setVFlag_readByte (s : State) (x : Nibble) (b f : Byte) (a' : Nat) :
    (s.setVFlag x b f).readByte a' = s.readByte a' := rfl

/-! ### setI -/

@[simp] theorem State.setI_v (s : State) (w : Word) :
    (s.setI w).v = s.v := rfl
@[simp] theorem State.setI_i (s : State) (w : Word) :
    (s.setI w).i = w := rfl
@[simp] theorem State.setI_pc (s : State) (w : Word) :
    (s.setI w).pc = s.pc := rfl
@[simp] theorem State.setI_stack (s : State) (w : Word) :
    (s.setI w).stack = s.stack := rfl
@[simp] theorem State.setI_sp (s : State) (w : Word) :
    (s.setI w).sp = s.sp := rfl
@[simp] theorem State.setI_dt (s : State) (w : Word) :
    (s.setI w).dt = s.dt := rfl
@[simp] theorem State.setI_st (s : State) (w : Word) :
    (s.setI w).st = s.st := rfl
@[simp] theorem State.setI_fb (s : State) (w : Word) :
    (s.setI w).fb = s.fb := rfl
@[simp] theorem State.setI_awaiting (s : State) (w : Word) :
    (s.setI w).awaiting = s.awaiting := rfl
@[simp] theorem State.setI_awaitX (s : State) (w : Word) :
    (s.setI w).awaitX = s.awaitX := rfl
@[simp] theorem State.setI_keyBase (s : State) (w : Word) :
    (s.setI w).keyBase = s.keyBase := rfl
@[simp] theorem State.setI_displayChanged (s : State) (w : Word) :
    (s.setI w).displayChanged = s.displayChanged := rfl
@[simp] theorem State.setI_faultCode (s : State) (w : Word) :
    (s.setI w).faultCode = s.faultCode := rfl
@[simp] theorem State.setI_faultPc (s : State) (w : Word) :
    (s.setI w).faultPc = s.faultPc := rfl
@[simp] theorem State.setI_faultWord (s : State) (w : Word) :
    (s.setI w).faultWord = s.faultWord := rfl
@[simp] theorem State.setI_mem (s : State) (w : Word) :
    (s.setI w).mem = s.mem := rfl
@[simp] theorem State.setI_cfg (s : State) (w : Word) :
    (s.setI w).cfg = s.cfg := rfl
@[simp] theorem State.setI_keys (s : State) (w : Word) :
    (s.setI w).keys = s.keys := rfl
@[simp] theorem State.setI_rand (s : State) (w : Word) :
    (s.setI w).rand = s.rand := rfl
@[simp] theorem State.setI_report (s : State) (w : Word) :
    (s.setI w).report = s.report := rfl
@[simp] theorem State.setI_pending (s : State) (w : Word) :
    (s.setI w).pending = s.pending := rfl
@[simp] theorem State.setI_draws (s : State) (w : Word) :
    (s.setI w).draws = s.draws := rfl
@[simp] theorem State.setI_getV (s : State) (w : Word) (r : Nibble) :
    (s.setI w).getV r = s.getV r := rfl
@[simp] theorem State.setI_readByte (s : State) (w : Word) (a' : Nat) :
    (s.setI w).readByte a' = s.readByte a' := rfl

/-! ### setPc -/

@[simp] theorem State.setPc_v (s : State) (w : Word) :
    (s.setPc w).v = s.v := rfl
@[simp] theorem State.setPc_i (s : State) (w : Word) :
    (s.setPc w).i = s.i := rfl
@[simp] theorem State.setPc_pc (s : State) (w : Word) :
    (s.setPc w).pc = w := rfl
@[simp] theorem State.setPc_stack (s : State) (w : Word) :
    (s.setPc w).stack = s.stack := rfl
@[simp] theorem State.setPc_sp (s : State) (w : Word) :
    (s.setPc w).sp = s.sp := rfl
@[simp] theorem State.setPc_dt (s : State) (w : Word) :
    (s.setPc w).dt = s.dt := rfl
@[simp] theorem State.setPc_st (s : State) (w : Word) :
    (s.setPc w).st = s.st := rfl
@[simp] theorem State.setPc_fb (s : State) (w : Word) :
    (s.setPc w).fb = s.fb := rfl
@[simp] theorem State.setPc_awaiting (s : State) (w : Word) :
    (s.setPc w).awaiting = s.awaiting := rfl
@[simp] theorem State.setPc_awaitX (s : State) (w : Word) :
    (s.setPc w).awaitX = s.awaitX := rfl
@[simp] theorem State.setPc_keyBase (s : State) (w : Word) :
    (s.setPc w).keyBase = s.keyBase := rfl
@[simp] theorem State.setPc_displayChanged (s : State) (w : Word) :
    (s.setPc w).displayChanged = s.displayChanged := rfl
@[simp] theorem State.setPc_faultCode (s : State) (w : Word) :
    (s.setPc w).faultCode = s.faultCode := rfl
@[simp] theorem State.setPc_faultPc (s : State) (w : Word) :
    (s.setPc w).faultPc = s.faultPc := rfl
@[simp] theorem State.setPc_faultWord (s : State) (w : Word) :
    (s.setPc w).faultWord = s.faultWord := rfl
@[simp] theorem State.setPc_mem (s : State) (w : Word) :
    (s.setPc w).mem = s.mem := rfl
@[simp] theorem State.setPc_cfg (s : State) (w : Word) :
    (s.setPc w).cfg = s.cfg := rfl
@[simp] theorem State.setPc_keys (s : State) (w : Word) :
    (s.setPc w).keys = s.keys := rfl
@[simp] theorem State.setPc_rand (s : State) (w : Word) :
    (s.setPc w).rand = s.rand := rfl
@[simp] theorem State.setPc_report (s : State) (w : Word) :
    (s.setPc w).report = s.report := rfl
@[simp] theorem State.setPc_pending (s : State) (w : Word) :
    (s.setPc w).pending = s.pending := rfl
@[simp] theorem State.setPc_draws (s : State) (w : Word) :
    (s.setPc w).draws = s.draws := rfl
@[simp] theorem State.setPc_getV (s : State) (w : Word) (r : Nibble) :
    (s.setPc w).getV r = s.getV r := rfl
@[simp] theorem State.setPc_readByte (s : State) (w : Word) (a' : Nat) :
    (s.setPc w).readByte a' = s.readByte a' := rfl

/-! ### next -/

@[simp] theorem State.next_v (s : State) :
    s.next.v = s.v := rfl
@[simp] theorem State.next_i (s : State) :
    s.next.i = s.i := rfl
@[simp] theorem State.next_pc (s : State) :
    s.next.pc = s.pc + 2 := rfl
@[simp] theorem State.next_stack (s : State) :
    s.next.stack = s.stack := rfl
@[simp] theorem State.next_sp (s : State) :
    s.next.sp = s.sp := rfl
@[simp] theorem State.next_dt (s : State) :
    s.next.dt = s.dt := rfl
@[simp] theorem State.next_st (s : State) :
    s.next.st = s.st := rfl
@[simp] theorem State.next_fb (s : State) :
    s.next.fb = s.fb := rfl
@[simp] theorem State.next_awaiting (s : State) :
    s.next.awaiting = s.awaiting := rfl
@[simp] theorem State.next_awaitX (s : State) :
    s.next.awaitX = s.awaitX := rfl
@[simp] theorem State.next_keyBase (s : State) :
    s.next.keyBase = s.keyBase := rfl
@[simp] theorem State.next_displayChanged (s : State) :
    s.next.displayChanged = s.displayChanged := rfl
@[simp] theorem State.next_faultCode (s : State) :
    s.next.faultCode = s.faultCode := rfl
@[simp] theorem State.next_faultPc (s : State) :
    s.next.faultPc = s.faultPc := rfl
@[simp] theorem State.next_faultWord (s : State) :
    s.next.faultWord = s.faultWord := rfl
@[simp] theorem State.next_mem (s : State) :
    s.next.mem = s.mem := rfl
@[simp] theorem State.next_cfg (s : State) :
    s.next.cfg = s.cfg := rfl
@[simp] theorem State.next_keys (s : State) :
    s.next.keys = s.keys := rfl
@[simp] theorem State.next_rand (s : State) :
    s.next.rand = s.rand := rfl
@[simp] theorem State.next_report (s : State) :
    s.next.report = s.report := rfl
@[simp] theorem State.next_pending (s : State) :
    s.next.pending = s.pending := rfl
@[simp] theorem State.next_draws (s : State) :
    s.next.draws = s.draws := rfl
@[simp] theorem State.next_getV (s : State) (r : Nibble) :
    s.next.getV r = s.getV r := rfl
@[simp] theorem State.next_readByte (s : State) (a' : Nat) :
    s.next.readByte a' = s.readByte a' := rfl

/-! ### skipIf -/

@[simp] theorem State.skipIf_v (s : State) (c : Bool) :
    (s.skipIf c).v = s.v := rfl
@[simp] theorem State.skipIf_i (s : State) (c : Bool) :
    (s.skipIf c).i = s.i := rfl
@[simp] theorem State.skipIf_pc (s : State) (c : Bool) :
    (s.skipIf c).pc = s.pc + bif c then 4 else 2 := rfl
@[simp] theorem State.skipIf_stack (s : State) (c : Bool) :
    (s.skipIf c).stack = s.stack := rfl
@[simp] theorem State.skipIf_sp (s : State) (c : Bool) :
    (s.skipIf c).sp = s.sp := rfl
@[simp] theorem State.skipIf_dt (s : State) (c : Bool) :
    (s.skipIf c).dt = s.dt := rfl
@[simp] theorem State.skipIf_st (s : State) (c : Bool) :
    (s.skipIf c).st = s.st := rfl
@[simp] theorem State.skipIf_fb (s : State) (c : Bool) :
    (s.skipIf c).fb = s.fb := rfl
@[simp] theorem State.skipIf_awaiting (s : State) (c : Bool) :
    (s.skipIf c).awaiting = s.awaiting := rfl
@[simp] theorem State.skipIf_awaitX (s : State) (c : Bool) :
    (s.skipIf c).awaitX = s.awaitX := rfl
@[simp] theorem State.skipIf_keyBase (s : State) (c : Bool) :
    (s.skipIf c).keyBase = s.keyBase := rfl
@[simp] theorem State.skipIf_displayChanged (s : State) (c : Bool) :
    (s.skipIf c).displayChanged = s.displayChanged := rfl
@[simp] theorem State.skipIf_faultCode (s : State) (c : Bool) :
    (s.skipIf c).faultCode = s.faultCode := rfl
@[simp] theorem State.skipIf_faultPc (s : State) (c : Bool) :
    (s.skipIf c).faultPc = s.faultPc := rfl
@[simp] theorem State.skipIf_faultWord (s : State) (c : Bool) :
    (s.skipIf c).faultWord = s.faultWord := rfl
@[simp] theorem State.skipIf_mem (s : State) (c : Bool) :
    (s.skipIf c).mem = s.mem := rfl
@[simp] theorem State.skipIf_cfg (s : State) (c : Bool) :
    (s.skipIf c).cfg = s.cfg := rfl
@[simp] theorem State.skipIf_keys (s : State) (c : Bool) :
    (s.skipIf c).keys = s.keys := rfl
@[simp] theorem State.skipIf_rand (s : State) (c : Bool) :
    (s.skipIf c).rand = s.rand := rfl
@[simp] theorem State.skipIf_report (s : State) (c : Bool) :
    (s.skipIf c).report = s.report := rfl
@[simp] theorem State.skipIf_pending (s : State) (c : Bool) :
    (s.skipIf c).pending = s.pending := rfl
@[simp] theorem State.skipIf_draws (s : State) (c : Bool) :
    (s.skipIf c).draws = s.draws := rfl
@[simp] theorem State.skipIf_getV (s : State) (c : Bool) (r : Nibble) :
    (s.skipIf c).getV r = s.getV r := rfl
@[simp] theorem State.skipIf_readByte (s : State) (c : Bool) (a' : Nat) :
    (s.skipIf c).readByte a' = s.readByte a' := rfl

/-! ### writeByte -/

@[simp] theorem State.writeByte_v (s : State) (a : Nat) (b : Byte) :
    (s.writeByte a b).v = s.v := rfl
@[simp] theorem State.writeByte_i (s : State) (a : Nat) (b : Byte) :
    (s.writeByte a b).i = s.i := rfl
@[simp] theorem State.writeByte_pc (s : State) (a : Nat) (b : Byte) :
    (s.writeByte a b).pc = s.pc := rfl
@[simp] theorem State.writeByte_stack (s : State) (a : Nat) (b : Byte) :
    (s.writeByte a b).stack = s.stack := rfl
@[simp] theorem State.writeByte_sp (s : State) (a : Nat) (b : Byte) :
    (s.writeByte a b).sp = s.sp := rfl
@[simp] theorem State.writeByte_dt (s : State) (a : Nat) (b : Byte) :
    (s.writeByte a b).dt = s.dt := rfl
@[simp] theorem State.writeByte_st (s : State) (a : Nat) (b : Byte) :
    (s.writeByte a b).st = s.st := rfl
@[simp] theorem State.writeByte_fb (s : State) (a : Nat) (b : Byte) :
    (s.writeByte a b).fb = s.fb := rfl
@[simp] theorem State.writeByte_awaiting (s : State) (a : Nat) (b : Byte) :
    (s.writeByte a b).awaiting = s.awaiting := rfl
@[simp] theorem State.writeByte_awaitX (s : State) (a : Nat) (b : Byte) :
    (s.writeByte a b).awaitX = s.awaitX := rfl
@[simp] theorem State.writeByte_keyBase (s : State) (a : Nat) (b : Byte) :
    (s.writeByte a b).keyBase = s.keyBase := rfl
@[simp] theorem State.writeByte_displayChanged (s : State) (a : Nat) (b : Byte) :
    (s.writeByte a b).displayChanged = s.displayChanged := rfl
@[simp] theorem State.writeByte_faultCode (s : State) (a : Nat) (b : Byte) :
    (s.writeByte a b).faultCode = s.faultCode := rfl
@[simp] theorem State.writeByte_faultPc (s : State) (a : Nat) (b : Byte) :
    (s.writeByte a b).faultPc = s.faultPc := rfl
@[simp] theorem State.writeByte_faultWord (s : State) (a : Nat) (b : Byte) :
    (s.writeByte a b).faultWord = s.faultWord := rfl
@[simp] theorem State.writeByte_mem (s : State) (a : Nat) (b : Byte) :
    (s.writeByte a b).mem = Memory.write s.cfg.fontBase s.mem a b := rfl
@[simp] theorem State.writeByte_cfg (s : State) (a : Nat) (b : Byte) :
    (s.writeByte a b).cfg = s.cfg := rfl
@[simp] theorem State.writeByte_keys (s : State) (a : Nat) (b : Byte) :
    (s.writeByte a b).keys = s.keys := rfl
@[simp] theorem State.writeByte_rand (s : State) (a : Nat) (b : Byte) :
    (s.writeByte a b).rand = s.rand := rfl
@[simp] theorem State.writeByte_report (s : State) (a : Nat) (b : Byte) :
    (s.writeByte a b).report = s.report := rfl
@[simp] theorem State.writeByte_pending (s : State) (a : Nat) (b : Byte) :
    (s.writeByte a b).pending = s.pending := rfl
@[simp] theorem State.writeByte_draws (s : State) (a : Nat) (b : Byte) :
    (s.writeByte a b).draws = s.draws := rfl
@[simp] theorem State.writeByte_getV (s : State) (a : Nat) (b : Byte) (r : Nibble) :
    (s.writeByte a b).getV r = s.getV r := rfl

/-! ### raise -/

@[simp] theorem State.raise_v (s : State) (code : FaultCode) (w : Word) :
    (s.raise code w).v = s.v := rfl
@[simp] theorem State.raise_i (s : State) (code : FaultCode) (w : Word) :
    (s.raise code w).i = s.i := rfl
@[simp] theorem State.raise_pc (s : State) (code : FaultCode) (w : Word) :
    (s.raise code w).pc = s.pc := rfl
@[simp] theorem State.raise_stack (s : State) (code : FaultCode) (w : Word) :
    (s.raise code w).stack = s.stack := rfl
@[simp] theorem State.raise_sp (s : State) (code : FaultCode) (w : Word) :
    (s.raise code w).sp = s.sp := rfl
@[simp] theorem State.raise_dt (s : State) (code : FaultCode) (w : Word) :
    (s.raise code w).dt = s.dt := rfl
@[simp] theorem State.raise_st (s : State) (code : FaultCode) (w : Word) :
    (s.raise code w).st = s.st := rfl
@[simp] theorem State.raise_fb (s : State) (code : FaultCode) (w : Word) :
    (s.raise code w).fb = s.fb := rfl
@[simp] theorem State.raise_awaiting (s : State) (code : FaultCode) (w : Word) :
    (s.raise code w).awaiting = s.awaiting := rfl
@[simp] theorem State.raise_awaitX (s : State) (code : FaultCode) (w : Word) :
    (s.raise code w).awaitX = s.awaitX := rfl
@[simp] theorem State.raise_keyBase (s : State) (code : FaultCode) (w : Word) :
    (s.raise code w).keyBase = s.keyBase := rfl
@[simp] theorem State.raise_displayChanged (s : State) (code : FaultCode) (w : Word) :
    (s.raise code w).displayChanged = s.displayChanged := rfl
@[simp] theorem State.raise_faultCode (s : State) (code : FaultCode) (w : Word) :
    (s.raise code w).faultCode = code := rfl
@[simp] theorem State.raise_faultPc (s : State) (code : FaultCode) (w : Word) :
    (s.raise code w).faultPc = s.pc := rfl
@[simp] theorem State.raise_faultWord (s : State) (code : FaultCode) (w : Word) :
    (s.raise code w).faultWord = w := rfl
@[simp] theorem State.raise_mem (s : State) (code : FaultCode) (w : Word) :
    (s.raise code w).mem = s.mem := rfl
@[simp] theorem State.raise_cfg (s : State) (code : FaultCode) (w : Word) :
    (s.raise code w).cfg = s.cfg := rfl
@[simp] theorem State.raise_keys (s : State) (code : FaultCode) (w : Word) :
    (s.raise code w).keys = s.keys := rfl
@[simp] theorem State.raise_rand (s : State) (code : FaultCode) (w : Word) :
    (s.raise code w).rand = s.rand := rfl
@[simp] theorem State.raise_report (s : State) (code : FaultCode) (w : Word) :
    (s.raise code w).report = code := rfl
@[simp] theorem State.raise_pending (s : State) (code : FaultCode) (w : Word) :
    (s.raise code w).pending = s.pending := rfl
@[simp] theorem State.raise_draws (s : State) (code : FaultCode) (w : Word) :
    (s.raise code w).draws = s.draws := rfl
@[simp] theorem State.raise_getV (s : State) (code : FaultCode) (w : Word) (r : Nibble) :
    (s.raise code w).getV r = s.getV r := rfl
@[simp] theorem State.raise_readByte (s : State) (code : FaultCode) (w : Word) (a' : Nat) :
    (s.raise code w).readByte a' = s.readByte a' := rfl

/-! ### begin -/

@[simp] theorem State.begin_v (s : State) :
    s.begin.v = s.v := rfl
@[simp] theorem State.begin_i (s : State) :
    s.begin.i = s.i := rfl
@[simp] theorem State.begin_pc (s : State) :
    s.begin.pc = s.pc := rfl
@[simp] theorem State.begin_stack (s : State) :
    s.begin.stack = s.stack := rfl
@[simp] theorem State.begin_sp (s : State) :
    s.begin.sp = s.sp := rfl
@[simp] theorem State.begin_dt (s : State) :
    s.begin.dt = s.dt := rfl
@[simp] theorem State.begin_st (s : State) :
    s.begin.st = s.st := rfl
@[simp] theorem State.begin_fb (s : State) :
    s.begin.fb = s.fb := rfl
@[simp] theorem State.begin_awaiting (s : State) :
    s.begin.awaiting = s.awaiting := rfl
@[simp] theorem State.begin_awaitX (s : State) :
    s.begin.awaitX = s.awaitX := rfl
@[simp] theorem State.begin_keyBase (s : State) :
    s.begin.keyBase = s.keyBase := rfl
@[simp] theorem State.begin_displayChanged (s : State) :
    s.begin.displayChanged = false := rfl
@[simp] theorem State.begin_faultCode (s : State) :
    s.begin.faultCode = s.faultCode := rfl
@[simp] theorem State.begin_faultPc (s : State) :
    s.begin.faultPc = s.faultPc := rfl
@[simp] theorem State.begin_faultWord (s : State) :
    s.begin.faultWord = s.faultWord := rfl
@[simp] theorem State.begin_mem (s : State) :
    s.begin.mem = s.mem := rfl
@[simp] theorem State.begin_cfg (s : State) :
    s.begin.cfg = s.cfg := rfl
@[simp] theorem State.begin_keys (s : State) :
    s.begin.keys = s.keys := rfl
@[simp] theorem State.begin_rand (s : State) :
    s.begin.rand = s.rand := rfl
@[simp] theorem State.begin_report (s : State) :
    s.begin.report = .none := rfl
@[simp] theorem State.begin_pending (s : State) :
    s.begin.pending = s.pending := rfl
@[simp] theorem State.begin_draws (s : State) :
    s.begin.draws = s.draws := rfl
@[simp] theorem State.begin_getV (s : State) (r : Nibble) :
    s.begin.getV r = s.getV r := rfl
@[simp] theorem State.begin_readByte (s : State) (a' : Nat) :
    s.begin.readByte a' = s.readByte a' := rfl

/-! ### sample -/

@[simp] theorem State.sample_v (s : State) (k : Word) (b : Byte) :
    (s.sample k b).v = s.v := rfl
@[simp] theorem State.sample_i (s : State) (k : Word) (b : Byte) :
    (s.sample k b).i = s.i := rfl
@[simp] theorem State.sample_pc (s : State) (k : Word) (b : Byte) :
    (s.sample k b).pc = s.pc := rfl
@[simp] theorem State.sample_stack (s : State) (k : Word) (b : Byte) :
    (s.sample k b).stack = s.stack := rfl
@[simp] theorem State.sample_sp (s : State) (k : Word) (b : Byte) :
    (s.sample k b).sp = s.sp := rfl
@[simp] theorem State.sample_dt (s : State) (k : Word) (b : Byte) :
    (s.sample k b).dt = s.dt := rfl
@[simp] theorem State.sample_st (s : State) (k : Word) (b : Byte) :
    (s.sample k b).st = s.st := rfl
@[simp] theorem State.sample_fb (s : State) (k : Word) (b : Byte) :
    (s.sample k b).fb = s.fb := rfl
@[simp] theorem State.sample_awaiting (s : State) (k : Word) (b : Byte) :
    (s.sample k b).awaiting = s.awaiting := rfl
@[simp] theorem State.sample_awaitX (s : State) (k : Word) (b : Byte) :
    (s.sample k b).awaitX = s.awaitX := rfl
@[simp] theorem State.sample_keyBase (s : State) (k : Word) (b : Byte) :
    (s.sample k b).keyBase = s.keyBase := rfl
@[simp] theorem State.sample_displayChanged (s : State) (k : Word) (b : Byte) :
    (s.sample k b).displayChanged = s.displayChanged := rfl
@[simp] theorem State.sample_faultCode (s : State) (k : Word) (b : Byte) :
    (s.sample k b).faultCode = s.faultCode := rfl
@[simp] theorem State.sample_faultPc (s : State) (k : Word) (b : Byte) :
    (s.sample k b).faultPc = s.faultPc := rfl
@[simp] theorem State.sample_faultWord (s : State) (k : Word) (b : Byte) :
    (s.sample k b).faultWord = s.faultWord := rfl
@[simp] theorem State.sample_mem (s : State) (k : Word) (b : Byte) :
    (s.sample k b).mem = s.mem := rfl
@[simp] theorem State.sample_cfg (s : State) (k : Word) (b : Byte) :
    (s.sample k b).cfg = s.cfg := rfl
@[simp] theorem State.sample_keys (s : State) (k : Word) (b : Byte) :
    (s.sample k b).keys = k := rfl
@[simp] theorem State.sample_rand (s : State) (k : Word) (b : Byte) :
    (s.sample k b).rand = b := rfl
@[simp] theorem State.sample_report (s : State) (k : Word) (b : Byte) :
    (s.sample k b).report = s.report := rfl
@[simp] theorem State.sample_pending (s : State) (k : Word) (b : Byte) :
    (s.sample k b).pending = s.pending := rfl
@[simp] theorem State.sample_draws (s : State) (k : Word) (b : Byte) :
    (s.sample k b).draws = s.draws := rfl
@[simp] theorem State.sample_getV (s : State) (k : Word) (b : Byte) (r : Nibble) :
    (s.sample k b).getV r = s.getV r := rfl
@[simp] theorem State.sample_readByte (s : State) (k : Word) (b : Byte) (a' : Nat) :
    (s.sample k b).readByte a' = s.readByte a' := rfl

/-! ### setDt -/

@[simp] theorem State.setDt_v (s : State) (b : Byte) :
    (s.setDt b).v = s.v := rfl
@[simp] theorem State.setDt_i (s : State) (b : Byte) :
    (s.setDt b).i = s.i := rfl
@[simp] theorem State.setDt_pc (s : State) (b : Byte) :
    (s.setDt b).pc = s.pc := rfl
@[simp] theorem State.setDt_stack (s : State) (b : Byte) :
    (s.setDt b).stack = s.stack := rfl
@[simp] theorem State.setDt_sp (s : State) (b : Byte) :
    (s.setDt b).sp = s.sp := rfl
@[simp] theorem State.setDt_dt (s : State) (b : Byte) :
    (s.setDt b).dt = b := rfl
@[simp] theorem State.setDt_st (s : State) (b : Byte) :
    (s.setDt b).st = s.st := rfl
@[simp] theorem State.setDt_fb (s : State) (b : Byte) :
    (s.setDt b).fb = s.fb := rfl
@[simp] theorem State.setDt_awaiting (s : State) (b : Byte) :
    (s.setDt b).awaiting = s.awaiting := rfl
@[simp] theorem State.setDt_awaitX (s : State) (b : Byte) :
    (s.setDt b).awaitX = s.awaitX := rfl
@[simp] theorem State.setDt_keyBase (s : State) (b : Byte) :
    (s.setDt b).keyBase = s.keyBase := rfl
@[simp] theorem State.setDt_displayChanged (s : State) (b : Byte) :
    (s.setDt b).displayChanged = s.displayChanged := rfl
@[simp] theorem State.setDt_faultCode (s : State) (b : Byte) :
    (s.setDt b).faultCode = s.faultCode := rfl
@[simp] theorem State.setDt_faultPc (s : State) (b : Byte) :
    (s.setDt b).faultPc = s.faultPc := rfl
@[simp] theorem State.setDt_faultWord (s : State) (b : Byte) :
    (s.setDt b).faultWord = s.faultWord := rfl
@[simp] theorem State.setDt_mem (s : State) (b : Byte) :
    (s.setDt b).mem = s.mem := rfl
@[simp] theorem State.setDt_cfg (s : State) (b : Byte) :
    (s.setDt b).cfg = s.cfg := rfl
@[simp] theorem State.setDt_keys (s : State) (b : Byte) :
    (s.setDt b).keys = s.keys := rfl
@[simp] theorem State.setDt_rand (s : State) (b : Byte) :
    (s.setDt b).rand = s.rand := rfl
@[simp] theorem State.setDt_report (s : State) (b : Byte) :
    (s.setDt b).report = s.report := rfl
@[simp] theorem State.setDt_pending (s : State) (b : Byte) :
    (s.setDt b).pending = s.pending := rfl
@[simp] theorem State.setDt_draws (s : State) (b : Byte) :
    (s.setDt b).draws = s.draws := rfl
@[simp] theorem State.setDt_getV (s : State) (b : Byte) (r : Nibble) :
    (s.setDt b).getV r = s.getV r := rfl
@[simp] theorem State.setDt_readByte (s : State) (b : Byte) (a' : Nat) :
    (s.setDt b).readByte a' = s.readByte a' := rfl

/-! ### setSt -/

@[simp] theorem State.setSt_v (s : State) (b : Byte) :
    (s.setSt b).v = s.v := rfl
@[simp] theorem State.setSt_i (s : State) (b : Byte) :
    (s.setSt b).i = s.i := rfl
@[simp] theorem State.setSt_pc (s : State) (b : Byte) :
    (s.setSt b).pc = s.pc := rfl
@[simp] theorem State.setSt_stack (s : State) (b : Byte) :
    (s.setSt b).stack = s.stack := rfl
@[simp] theorem State.setSt_sp (s : State) (b : Byte) :
    (s.setSt b).sp = s.sp := rfl
@[simp] theorem State.setSt_dt (s : State) (b : Byte) :
    (s.setSt b).dt = s.dt := rfl
@[simp] theorem State.setSt_st (s : State) (b : Byte) :
    (s.setSt b).st = b := rfl
@[simp] theorem State.setSt_fb (s : State) (b : Byte) :
    (s.setSt b).fb = s.fb := rfl
@[simp] theorem State.setSt_awaiting (s : State) (b : Byte) :
    (s.setSt b).awaiting = s.awaiting := rfl
@[simp] theorem State.setSt_awaitX (s : State) (b : Byte) :
    (s.setSt b).awaitX = s.awaitX := rfl
@[simp] theorem State.setSt_keyBase (s : State) (b : Byte) :
    (s.setSt b).keyBase = s.keyBase := rfl
@[simp] theorem State.setSt_displayChanged (s : State) (b : Byte) :
    (s.setSt b).displayChanged = s.displayChanged := rfl
@[simp] theorem State.setSt_faultCode (s : State) (b : Byte) :
    (s.setSt b).faultCode = s.faultCode := rfl
@[simp] theorem State.setSt_faultPc (s : State) (b : Byte) :
    (s.setSt b).faultPc = s.faultPc := rfl
@[simp] theorem State.setSt_faultWord (s : State) (b : Byte) :
    (s.setSt b).faultWord = s.faultWord := rfl
@[simp] theorem State.setSt_mem (s : State) (b : Byte) :
    (s.setSt b).mem = s.mem := rfl
@[simp] theorem State.setSt_cfg (s : State) (b : Byte) :
    (s.setSt b).cfg = s.cfg := rfl
@[simp] theorem State.setSt_keys (s : State) (b : Byte) :
    (s.setSt b).keys = s.keys := rfl
@[simp] theorem State.setSt_rand (s : State) (b : Byte) :
    (s.setSt b).rand = s.rand := rfl
@[simp] theorem State.setSt_report (s : State) (b : Byte) :
    (s.setSt b).report = s.report := rfl
@[simp] theorem State.setSt_pending (s : State) (b : Byte) :
    (s.setSt b).pending = s.pending := rfl
@[simp] theorem State.setSt_draws (s : State) (b : Byte) :
    (s.setSt b).draws = s.draws := rfl
@[simp] theorem State.setSt_getV (s : State) (b : Byte) (r : Nibble) :
    (s.setSt b).getV r = s.getV r := rfl
@[simp] theorem State.setSt_readByte (s : State) (b : Byte) (a' : Nat) :
    (s.setSt b).readByte a' = s.readByte a' := rfl

/-! ### setFb -/

@[simp] theorem State.setFb_v (s : State) (f : Vector (BitVec 64) 32) :
    (s.setFb f).v = s.v := rfl
@[simp] theorem State.setFb_i (s : State) (f : Vector (BitVec 64) 32) :
    (s.setFb f).i = s.i := rfl
@[simp] theorem State.setFb_pc (s : State) (f : Vector (BitVec 64) 32) :
    (s.setFb f).pc = s.pc := rfl
@[simp] theorem State.setFb_stack (s : State) (f : Vector (BitVec 64) 32) :
    (s.setFb f).stack = s.stack := rfl
@[simp] theorem State.setFb_sp (s : State) (f : Vector (BitVec 64) 32) :
    (s.setFb f).sp = s.sp := rfl
@[simp] theorem State.setFb_dt (s : State) (f : Vector (BitVec 64) 32) :
    (s.setFb f).dt = s.dt := rfl
@[simp] theorem State.setFb_st (s : State) (f : Vector (BitVec 64) 32) :
    (s.setFb f).st = s.st := rfl
@[simp] theorem State.setFb_fb (s : State) (f : Vector (BitVec 64) 32) :
    (s.setFb f).fb = f := rfl
@[simp] theorem State.setFb_awaiting (s : State) (f : Vector (BitVec 64) 32) :
    (s.setFb f).awaiting = s.awaiting := rfl
@[simp] theorem State.setFb_awaitX (s : State) (f : Vector (BitVec 64) 32) :
    (s.setFb f).awaitX = s.awaitX := rfl
@[simp] theorem State.setFb_keyBase (s : State) (f : Vector (BitVec 64) 32) :
    (s.setFb f).keyBase = s.keyBase := rfl
@[simp] theorem State.setFb_displayChanged (s : State) (f : Vector (BitVec 64) 32) :
    (s.setFb f).displayChanged = s.displayChanged := rfl
@[simp] theorem State.setFb_faultCode (s : State) (f : Vector (BitVec 64) 32) :
    (s.setFb f).faultCode = s.faultCode := rfl
@[simp] theorem State.setFb_faultPc (s : State) (f : Vector (BitVec 64) 32) :
    (s.setFb f).faultPc = s.faultPc := rfl
@[simp] theorem State.setFb_faultWord (s : State) (f : Vector (BitVec 64) 32) :
    (s.setFb f).faultWord = s.faultWord := rfl
@[simp] theorem State.setFb_mem (s : State) (f : Vector (BitVec 64) 32) :
    (s.setFb f).mem = s.mem := rfl
@[simp] theorem State.setFb_cfg (s : State) (f : Vector (BitVec 64) 32) :
    (s.setFb f).cfg = s.cfg := rfl
@[simp] theorem State.setFb_keys (s : State) (f : Vector (BitVec 64) 32) :
    (s.setFb f).keys = s.keys := rfl
@[simp] theorem State.setFb_rand (s : State) (f : Vector (BitVec 64) 32) :
    (s.setFb f).rand = s.rand := rfl
@[simp] theorem State.setFb_report (s : State) (f : Vector (BitVec 64) 32) :
    (s.setFb f).report = s.report := rfl
@[simp] theorem State.setFb_pending (s : State) (f : Vector (BitVec 64) 32) :
    (s.setFb f).pending = s.pending := rfl
@[simp] theorem State.setFb_draws (s : State) (f : Vector (BitVec 64) 32) :
    (s.setFb f).draws = s.draws := rfl
@[simp] theorem State.setFb_getV (s : State) (f : Vector (BitVec 64) 32) (r : Nibble) :
    (s.setFb f).getV r = s.getV r := rfl
@[simp] theorem State.setFb_readByte (s : State) (f : Vector (BitVec 64) 32) (a' : Nat) :
    (s.setFb f).readByte a' = s.readByte a' := rfl

/-! ### signalDisplay -/

@[simp] theorem State.signalDisplay_v (s : State) :
    s.signalDisplay.v = s.v := rfl
@[simp] theorem State.signalDisplay_i (s : State) :
    s.signalDisplay.i = s.i := rfl
@[simp] theorem State.signalDisplay_pc (s : State) :
    s.signalDisplay.pc = s.pc := rfl
@[simp] theorem State.signalDisplay_stack (s : State) :
    s.signalDisplay.stack = s.stack := rfl
@[simp] theorem State.signalDisplay_sp (s : State) :
    s.signalDisplay.sp = s.sp := rfl
@[simp] theorem State.signalDisplay_dt (s : State) :
    s.signalDisplay.dt = s.dt := rfl
@[simp] theorem State.signalDisplay_st (s : State) :
    s.signalDisplay.st = s.st := rfl
@[simp] theorem State.signalDisplay_fb (s : State) :
    s.signalDisplay.fb = s.fb := rfl
@[simp] theorem State.signalDisplay_awaiting (s : State) :
    s.signalDisplay.awaiting = s.awaiting := rfl
@[simp] theorem State.signalDisplay_awaitX (s : State) :
    s.signalDisplay.awaitX = s.awaitX := rfl
@[simp] theorem State.signalDisplay_keyBase (s : State) :
    s.signalDisplay.keyBase = s.keyBase := rfl
@[simp] theorem State.signalDisplay_displayChanged (s : State) :
    s.signalDisplay.displayChanged = true := rfl
@[simp] theorem State.signalDisplay_faultCode (s : State) :
    s.signalDisplay.faultCode = s.faultCode := rfl
@[simp] theorem State.signalDisplay_faultPc (s : State) :
    s.signalDisplay.faultPc = s.faultPc := rfl
@[simp] theorem State.signalDisplay_faultWord (s : State) :
    s.signalDisplay.faultWord = s.faultWord := rfl
@[simp] theorem State.signalDisplay_mem (s : State) :
    s.signalDisplay.mem = s.mem := rfl
@[simp] theorem State.signalDisplay_cfg (s : State) :
    s.signalDisplay.cfg = s.cfg := rfl
@[simp] theorem State.signalDisplay_keys (s : State) :
    s.signalDisplay.keys = s.keys := rfl
@[simp] theorem State.signalDisplay_rand (s : State) :
    s.signalDisplay.rand = s.rand := rfl
@[simp] theorem State.signalDisplay_report (s : State) :
    s.signalDisplay.report = s.report := rfl
@[simp] theorem State.signalDisplay_pending (s : State) :
    s.signalDisplay.pending = s.pending := rfl
@[simp] theorem State.signalDisplay_draws (s : State) :
    s.signalDisplay.draws = s.draws := rfl
@[simp] theorem State.signalDisplay_getV (s : State) (r : Nibble) :
    s.signalDisplay.getV r = s.getV r := rfl
@[simp] theorem State.signalDisplay_readByte (s : State) (a' : Nat) :
    s.signalDisplay.readByte a' = s.readByte a' := rfl

/-! ### startKeyWait -/

@[simp] theorem State.startKeyWait_v (s : State) (x : Nibble) :
    (s.startKeyWait x).v = s.v := rfl
@[simp] theorem State.startKeyWait_i (s : State) (x : Nibble) :
    (s.startKeyWait x).i = s.i := rfl
@[simp] theorem State.startKeyWait_pc (s : State) (x : Nibble) :
    (s.startKeyWait x).pc = s.pc := rfl
@[simp] theorem State.startKeyWait_stack (s : State) (x : Nibble) :
    (s.startKeyWait x).stack = s.stack := rfl
@[simp] theorem State.startKeyWait_sp (s : State) (x : Nibble) :
    (s.startKeyWait x).sp = s.sp := rfl
@[simp] theorem State.startKeyWait_dt (s : State) (x : Nibble) :
    (s.startKeyWait x).dt = s.dt := rfl
@[simp] theorem State.startKeyWait_st (s : State) (x : Nibble) :
    (s.startKeyWait x).st = s.st := rfl
@[simp] theorem State.startKeyWait_fb (s : State) (x : Nibble) :
    (s.startKeyWait x).fb = s.fb := rfl
@[simp] theorem State.startKeyWait_awaiting (s : State) (x : Nibble) :
    (s.startKeyWait x).awaiting = true := rfl
@[simp] theorem State.startKeyWait_awaitX (s : State) (x : Nibble) :
    (s.startKeyWait x).awaitX = x := rfl
@[simp] theorem State.startKeyWait_keyBase (s : State) (x : Nibble) :
    (s.startKeyWait x).keyBase = s.keys := rfl
@[simp] theorem State.startKeyWait_displayChanged (s : State) (x : Nibble) :
    (s.startKeyWait x).displayChanged = s.displayChanged := rfl
@[simp] theorem State.startKeyWait_faultCode (s : State) (x : Nibble) :
    (s.startKeyWait x).faultCode = s.faultCode := rfl
@[simp] theorem State.startKeyWait_faultPc (s : State) (x : Nibble) :
    (s.startKeyWait x).faultPc = s.faultPc := rfl
@[simp] theorem State.startKeyWait_faultWord (s : State) (x : Nibble) :
    (s.startKeyWait x).faultWord = s.faultWord := rfl
@[simp] theorem State.startKeyWait_mem (s : State) (x : Nibble) :
    (s.startKeyWait x).mem = s.mem := rfl
@[simp] theorem State.startKeyWait_cfg (s : State) (x : Nibble) :
    (s.startKeyWait x).cfg = s.cfg := rfl
@[simp] theorem State.startKeyWait_keys (s : State) (x : Nibble) :
    (s.startKeyWait x).keys = s.keys := rfl
@[simp] theorem State.startKeyWait_rand (s : State) (x : Nibble) :
    (s.startKeyWait x).rand = s.rand := rfl
@[simp] theorem State.startKeyWait_report (s : State) (x : Nibble) :
    (s.startKeyWait x).report = s.report := rfl
@[simp] theorem State.startKeyWait_pending (s : State) (x : Nibble) :
    (s.startKeyWait x).pending = s.pending := rfl
@[simp] theorem State.startKeyWait_draws (s : State) (x : Nibble) :
    (s.startKeyWait x).draws = s.draws := rfl
@[simp] theorem State.startKeyWait_getV (s : State) (x : Nibble) (r : Nibble) :
    (s.startKeyWait x).getV r = s.getV r := rfl
@[simp] theorem State.startKeyWait_readByte (s : State) (x : Nibble) (a' : Nat) :
    (s.startKeyWait x).readByte a' = s.readByte a' := rfl

/-! ### endKeyWait -/

@[simp] theorem State.endKeyWait_v (s : State) :
    s.endKeyWait.v = s.v := rfl
@[simp] theorem State.endKeyWait_i (s : State) :
    s.endKeyWait.i = s.i := rfl
@[simp] theorem State.endKeyWait_pc (s : State) :
    s.endKeyWait.pc = s.pc := rfl
@[simp] theorem State.endKeyWait_stack (s : State) :
    s.endKeyWait.stack = s.stack := rfl
@[simp] theorem State.endKeyWait_sp (s : State) :
    s.endKeyWait.sp = s.sp := rfl
@[simp] theorem State.endKeyWait_dt (s : State) :
    s.endKeyWait.dt = s.dt := rfl
@[simp] theorem State.endKeyWait_st (s : State) :
    s.endKeyWait.st = s.st := rfl
@[simp] theorem State.endKeyWait_fb (s : State) :
    s.endKeyWait.fb = s.fb := rfl
@[simp] theorem State.endKeyWait_awaiting (s : State) :
    s.endKeyWait.awaiting = false := rfl
@[simp] theorem State.endKeyWait_awaitX (s : State) :
    s.endKeyWait.awaitX = s.awaitX := rfl
@[simp] theorem State.endKeyWait_keyBase (s : State) :
    s.endKeyWait.keyBase = s.keyBase := rfl
@[simp] theorem State.endKeyWait_displayChanged (s : State) :
    s.endKeyWait.displayChanged = s.displayChanged := rfl
@[simp] theorem State.endKeyWait_faultCode (s : State) :
    s.endKeyWait.faultCode = s.faultCode := rfl
@[simp] theorem State.endKeyWait_faultPc (s : State) :
    s.endKeyWait.faultPc = s.faultPc := rfl
@[simp] theorem State.endKeyWait_faultWord (s : State) :
    s.endKeyWait.faultWord = s.faultWord := rfl
@[simp] theorem State.endKeyWait_mem (s : State) :
    s.endKeyWait.mem = s.mem := rfl
@[simp] theorem State.endKeyWait_cfg (s : State) :
    s.endKeyWait.cfg = s.cfg := rfl
@[simp] theorem State.endKeyWait_keys (s : State) :
    s.endKeyWait.keys = s.keys := rfl
@[simp] theorem State.endKeyWait_rand (s : State) :
    s.endKeyWait.rand = s.rand := rfl
@[simp] theorem State.endKeyWait_report (s : State) :
    s.endKeyWait.report = s.report := rfl
@[simp] theorem State.endKeyWait_pending (s : State) :
    s.endKeyWait.pending = s.pending := rfl
@[simp] theorem State.endKeyWait_draws (s : State) :
    s.endKeyWait.draws = s.draws := rfl
@[simp] theorem State.endKeyWait_getV (s : State) (r : Nibble) :
    s.endKeyWait.getV r = s.getV r := rfl
@[simp] theorem State.endKeyWait_readByte (s : State) (a' : Nat) :
    s.endKeyWait.readByte a' = s.readByte a' := rfl

/-! ### setKeyBase -/

@[simp] theorem State.setKeyBase_v (s : State) (k : Word) :
    (s.setKeyBase k).v = s.v := rfl
@[simp] theorem State.setKeyBase_i (s : State) (k : Word) :
    (s.setKeyBase k).i = s.i := rfl
@[simp] theorem State.setKeyBase_pc (s : State) (k : Word) :
    (s.setKeyBase k).pc = s.pc := rfl
@[simp] theorem State.setKeyBase_stack (s : State) (k : Word) :
    (s.setKeyBase k).stack = s.stack := rfl
@[simp] theorem State.setKeyBase_sp (s : State) (k : Word) :
    (s.setKeyBase k).sp = s.sp := rfl
@[simp] theorem State.setKeyBase_dt (s : State) (k : Word) :
    (s.setKeyBase k).dt = s.dt := rfl
@[simp] theorem State.setKeyBase_st (s : State) (k : Word) :
    (s.setKeyBase k).st = s.st := rfl
@[simp] theorem State.setKeyBase_fb (s : State) (k : Word) :
    (s.setKeyBase k).fb = s.fb := rfl
@[simp] theorem State.setKeyBase_awaiting (s : State) (k : Word) :
    (s.setKeyBase k).awaiting = s.awaiting := rfl
@[simp] theorem State.setKeyBase_awaitX (s : State) (k : Word) :
    (s.setKeyBase k).awaitX = s.awaitX := rfl
@[simp] theorem State.setKeyBase_keyBase (s : State) (k : Word) :
    (s.setKeyBase k).keyBase = k := rfl
@[simp] theorem State.setKeyBase_displayChanged (s : State) (k : Word) :
    (s.setKeyBase k).displayChanged = s.displayChanged := rfl
@[simp] theorem State.setKeyBase_faultCode (s : State) (k : Word) :
    (s.setKeyBase k).faultCode = s.faultCode := rfl
@[simp] theorem State.setKeyBase_faultPc (s : State) (k : Word) :
    (s.setKeyBase k).faultPc = s.faultPc := rfl
@[simp] theorem State.setKeyBase_faultWord (s : State) (k : Word) :
    (s.setKeyBase k).faultWord = s.faultWord := rfl
@[simp] theorem State.setKeyBase_mem (s : State) (k : Word) :
    (s.setKeyBase k).mem = s.mem := rfl
@[simp] theorem State.setKeyBase_cfg (s : State) (k : Word) :
    (s.setKeyBase k).cfg = s.cfg := rfl
@[simp] theorem State.setKeyBase_keys (s : State) (k : Word) :
    (s.setKeyBase k).keys = s.keys := rfl
@[simp] theorem State.setKeyBase_rand (s : State) (k : Word) :
    (s.setKeyBase k).rand = s.rand := rfl
@[simp] theorem State.setKeyBase_report (s : State) (k : Word) :
    (s.setKeyBase k).report = s.report := rfl
@[simp] theorem State.setKeyBase_pending (s : State) (k : Word) :
    (s.setKeyBase k).pending = s.pending := rfl
@[simp] theorem State.setKeyBase_draws (s : State) (k : Word) :
    (s.setKeyBase k).draws = s.draws := rfl
@[simp] theorem State.setKeyBase_getV (s : State) (k : Word) (r : Nibble) :
    (s.setKeyBase k).getV r = s.getV r := rfl
@[simp] theorem State.setKeyBase_readByte (s : State) (k : Word) (a' : Nat) :
    (s.setKeyBase k).readByte a' = s.readByte a' := rfl

/-! ### takePending -/

@[simp] theorem State.takePending_v (s : State) (rest : List HostCommand) :
    (s.takePending rest).v = s.v := rfl
@[simp] theorem State.takePending_i (s : State) (rest : List HostCommand) :
    (s.takePending rest).i = s.i := rfl
@[simp] theorem State.takePending_pc (s : State) (rest : List HostCommand) :
    (s.takePending rest).pc = s.pc := rfl
@[simp] theorem State.takePending_stack (s : State) (rest : List HostCommand) :
    (s.takePending rest).stack = s.stack := rfl
@[simp] theorem State.takePending_sp (s : State) (rest : List HostCommand) :
    (s.takePending rest).sp = s.sp := rfl
@[simp] theorem State.takePending_dt (s : State) (rest : List HostCommand) :
    (s.takePending rest).dt = s.dt := rfl
@[simp] theorem State.takePending_st (s : State) (rest : List HostCommand) :
    (s.takePending rest).st = s.st := rfl
@[simp] theorem State.takePending_fb (s : State) (rest : List HostCommand) :
    (s.takePending rest).fb = s.fb := rfl
@[simp] theorem State.takePending_awaiting (s : State) (rest : List HostCommand) :
    (s.takePending rest).awaiting = s.awaiting := rfl
@[simp] theorem State.takePending_awaitX (s : State) (rest : List HostCommand) :
    (s.takePending rest).awaitX = s.awaitX := rfl
@[simp] theorem State.takePending_keyBase (s : State) (rest : List HostCommand) :
    (s.takePending rest).keyBase = s.keyBase := rfl
@[simp] theorem State.takePending_displayChanged (s : State) (rest : List HostCommand) :
    (s.takePending rest).displayChanged = s.displayChanged := rfl
@[simp] theorem State.takePending_faultCode (s : State) (rest : List HostCommand) :
    (s.takePending rest).faultCode = s.faultCode := rfl
@[simp] theorem State.takePending_faultPc (s : State) (rest : List HostCommand) :
    (s.takePending rest).faultPc = s.faultPc := rfl
@[simp] theorem State.takePending_faultWord (s : State) (rest : List HostCommand) :
    (s.takePending rest).faultWord = s.faultWord := rfl
@[simp] theorem State.takePending_mem (s : State) (rest : List HostCommand) :
    (s.takePending rest).mem = s.mem := rfl
@[simp] theorem State.takePending_cfg (s : State) (rest : List HostCommand) :
    (s.takePending rest).cfg = s.cfg := rfl
@[simp] theorem State.takePending_keys (s : State) (rest : List HostCommand) :
    (s.takePending rest).keys = s.keys := rfl
@[simp] theorem State.takePending_rand (s : State) (rest : List HostCommand) :
    (s.takePending rest).rand = s.rand := rfl
@[simp] theorem State.takePending_report (s : State) (rest : List HostCommand) :
    (s.takePending rest).report = s.report := rfl
@[simp] theorem State.takePending_pending (s : State) (rest : List HostCommand) :
    (s.takePending rest).pending = rest := rfl
@[simp] theorem State.takePending_draws (s : State) (rest : List HostCommand) :
    (s.takePending rest).draws = s.draws := rfl
@[simp] theorem State.takePending_getV (s : State) (rest : List HostCommand) (r : Nibble) :
    (s.takePending rest).getV r = s.getV r := rfl
@[simp] theorem State.takePending_readByte (s : State) (rest : List HostCommand) (a' : Nat) :
    (s.takePending rest).readByte a' = s.readByte a' := rfl

/-! ### sampleFree -/

@[simp] theorem State.sampleFree_v (s : State) :
    s.sampleFree.v = s.v := rfl
@[simp] theorem State.sampleFree_i (s : State) :
    s.sampleFree.i = s.i := rfl
@[simp] theorem State.sampleFree_pc (s : State) :
    s.sampleFree.pc = s.pc := rfl
@[simp] theorem State.sampleFree_stack (s : State) :
    s.sampleFree.stack = s.stack := rfl
@[simp] theorem State.sampleFree_sp (s : State) :
    s.sampleFree.sp = s.sp := rfl
@[simp] theorem State.sampleFree_dt (s : State) :
    s.sampleFree.dt = s.dt := rfl
@[simp] theorem State.sampleFree_st (s : State) :
    s.sampleFree.st = s.st := rfl
@[simp] theorem State.sampleFree_fb (s : State) :
    s.sampleFree.fb = s.fb := rfl
@[simp] theorem State.sampleFree_awaiting (s : State) :
    s.sampleFree.awaiting = s.awaiting := rfl
@[simp] theorem State.sampleFree_awaitX (s : State) :
    s.sampleFree.awaitX = s.awaitX := rfl
@[simp] theorem State.sampleFree_keyBase (s : State) :
    s.sampleFree.keyBase = s.keyBase := rfl
@[simp] theorem State.sampleFree_displayChanged (s : State) :
    s.sampleFree.displayChanged = s.displayChanged := rfl
@[simp] theorem State.sampleFree_faultCode (s : State) :
    s.sampleFree.faultCode = s.faultCode := rfl
@[simp] theorem State.sampleFree_faultPc (s : State) :
    s.sampleFree.faultPc = s.faultPc := rfl
@[simp] theorem State.sampleFree_faultWord (s : State) :
    s.sampleFree.faultWord = s.faultWord := rfl
@[simp] theorem State.sampleFree_mem (s : State) :
    s.sampleFree.mem = s.mem := rfl
@[simp] theorem State.sampleFree_cfg (s : State) :
    s.sampleFree.cfg = s.cfg := rfl
@[simp] theorem State.sampleFree_keys (s : State) :
    s.sampleFree.keys = Config.freeKeys s.draws := rfl
@[simp] theorem State.sampleFree_rand (s : State) :
    s.sampleFree.rand = Config.freeRand s.draws := rfl
@[simp] theorem State.sampleFree_report (s : State) :
    s.sampleFree.report = s.report := rfl
@[simp] theorem State.sampleFree_pending (s : State) :
    s.sampleFree.pending = s.pending := rfl
@[simp] theorem State.sampleFree_draws (s : State) :
    s.sampleFree.draws = s.draws + 1 := rfl
@[simp] theorem State.sampleFree_getV (s : State) (r : Nibble) :
    s.sampleFree.getV r = s.getV r := rfl
@[simp] theorem State.sampleFree_readByte (s : State) (a' : Nat) :
    s.sampleFree.readByte a' = s.readByte a' := rfl

/-! ### resetCommand -/

@[simp] theorem State.resetCommand_v (s : State) :
    s.resetCommand.v = Vector.replicate 16 0 := rfl
@[simp] theorem State.resetCommand_i (s : State) :
    s.resetCommand.i = 0x0000 := rfl
@[simp] theorem State.resetCommand_pc (s : State) :
    s.resetCommand.pc = 0x0200 := rfl
@[simp] theorem State.resetCommand_stack (s : State) :
    s.resetCommand.stack = Vector.replicate 16 0 := rfl
@[simp] theorem State.resetCommand_sp (s : State) :
    s.resetCommand.sp = 0 := rfl
@[simp] theorem State.resetCommand_dt (s : State) :
    s.resetCommand.dt = 0 := rfl
@[simp] theorem State.resetCommand_st (s : State) :
    s.resetCommand.st = 0 := rfl
@[simp] theorem State.resetCommand_fb (s : State) :
    s.resetCommand.fb = Vector.replicate 32 0 := rfl
@[simp] theorem State.resetCommand_awaiting (s : State) :
    s.resetCommand.awaiting = false := rfl
@[simp] theorem State.resetCommand_awaitX (s : State) :
    s.resetCommand.awaitX = 0 := rfl
@[simp] theorem State.resetCommand_keyBase (s : State) :
    s.resetCommand.keyBase = 0x0000 := rfl
@[simp] theorem State.resetCommand_displayChanged (s : State) :
    s.resetCommand.displayChanged = false := rfl
@[simp] theorem State.resetCommand_faultCode (s : State) :
    s.resetCommand.faultCode = .none := rfl
@[simp] theorem State.resetCommand_faultPc (s : State) :
    s.resetCommand.faultPc = 0x0000 := rfl
@[simp] theorem State.resetCommand_faultWord (s : State) :
    s.resetCommand.faultWord = 0x0000 := rfl
@[simp] theorem State.resetCommand_mem (s : State) :
    s.resetCommand.mem = s.mem := rfl
@[simp] theorem State.resetCommand_cfg (s : State) :
    s.resetCommand.cfg = s.cfg := rfl
@[simp] theorem State.resetCommand_keys (s : State) :
    s.resetCommand.keys = s.keys := rfl
@[simp] theorem State.resetCommand_rand (s : State) :
    s.resetCommand.rand = s.rand := rfl
@[simp] theorem State.resetCommand_report (s : State) :
    s.resetCommand.report = .none := rfl
@[simp] theorem State.resetCommand_pending (s : State) :
    s.resetCommand.pending = s.pending := rfl
@[simp] theorem State.resetCommand_draws (s : State) :
    s.resetCommand.draws = s.draws := rfl
@[simp] theorem State.resetCommand_readByte (s : State) (a' : Nat) :
    s.resetCommand.readByte a' = s.readByte a' := rfl

/-! ### powerOnCommand -/

@[simp] theorem State.powerOnCommand_v (s : State) :
    s.powerOnCommand.v = Vector.replicate 16 0 := rfl
@[simp] theorem State.powerOnCommand_i (s : State) :
    s.powerOnCommand.i = 0x0000 := rfl
@[simp] theorem State.powerOnCommand_pc (s : State) :
    s.powerOnCommand.pc = 0x0200 := rfl
@[simp] theorem State.powerOnCommand_stack (s : State) :
    s.powerOnCommand.stack = Vector.replicate 16 0 := rfl
@[simp] theorem State.powerOnCommand_sp (s : State) :
    s.powerOnCommand.sp = 0 := rfl
@[simp] theorem State.powerOnCommand_dt (s : State) :
    s.powerOnCommand.dt = 0 := rfl
@[simp] theorem State.powerOnCommand_st (s : State) :
    s.powerOnCommand.st = 0 := rfl
@[simp] theorem State.powerOnCommand_fb (s : State) :
    s.powerOnCommand.fb = Vector.replicate 32 0 := rfl
@[simp] theorem State.powerOnCommand_awaiting (s : State) :
    s.powerOnCommand.awaiting = false := rfl
@[simp] theorem State.powerOnCommand_awaitX (s : State) :
    s.powerOnCommand.awaitX = 0 := rfl
@[simp] theorem State.powerOnCommand_keyBase (s : State) :
    s.powerOnCommand.keyBase = 0x0000 := rfl
@[simp] theorem State.powerOnCommand_displayChanged (s : State) :
    s.powerOnCommand.displayChanged = false := rfl
@[simp] theorem State.powerOnCommand_faultCode (s : State) :
    s.powerOnCommand.faultCode = .none := rfl
@[simp] theorem State.powerOnCommand_faultPc (s : State) :
    s.powerOnCommand.faultPc = 0x0000 := rfl
@[simp] theorem State.powerOnCommand_faultWord (s : State) :
    s.powerOnCommand.faultWord = 0x0000 := rfl
@[simp] theorem State.powerOnCommand_mem (s : State) :
    s.powerOnCommand.mem = [] := rfl
@[simp] theorem State.powerOnCommand_cfg (s : State) :
    s.powerOnCommand.cfg = s.cfg := rfl
@[simp] theorem State.powerOnCommand_keys (s : State) :
    s.powerOnCommand.keys = s.keys := rfl
@[simp] theorem State.powerOnCommand_rand (s : State) :
    s.powerOnCommand.rand = s.rand := rfl
@[simp] theorem State.powerOnCommand_report (s : State) :
    s.powerOnCommand.report = .none := rfl
@[simp] theorem State.powerOnCommand_pending (s : State) :
    s.powerOnCommand.pending = s.pending := rfl
@[simp] theorem State.powerOnCommand_draws (s : State) :
    s.powerOnCommand.draws = s.draws := rfl

end Sys2Proof.Machine
end

