-- ==== Sys2Proof/Laws/Ops.lean ====
section
/-! SUPPORT. One lemma per shared operation: everything it can do. -/

namespace Sys2Proof.Machine

/-! ### Registers -/

@[simp] theorem State.getV_setV (s : State) (x r : Nibble) (b : Byte) :
    (s.setV x b).getV r = if r = x then b else s.getV r := by
  simp only [State.getV, State.setV, Vector.getElem_set]
  have : (x.toNat = r.toNat) ↔ r = x := by rw [eq_comm, BitVec.toNat_inj]
  simp [this]

theorem State.getV_setVFlag (s : State) (x r : Nibble) (b f : Byte) :
    (s.setVFlag x b f).getV r = if r = 0xF then f else if r = x then b else s.getV r := by
  simp [State.setVFlag]

/-! ### Skips -/

theorem State.skipIf_true (s : State) : s.skipIf true = s.setPc (s.pc + 4) := rfl

theorem State.skipIf_false (s : State) : s.skipIf false = s.next := rfl

/-! ### The stack -/

theorem State.push_eq_some {s s' : State} {w : Word} (h : s.push w = some s') :
    ∃ hsp : s.sp.val < 16,
      s' = { s with stack := s.stack.set s.sp.val w, sp := ⟨s.sp.val + 1, Nat.succ_lt_succ hsp⟩ } := by
  unfold State.push at h
  split at h
  · exact ⟨‹_›, (Option.some.inj h).symm⟩
  · cases h

theorem State.push_eq_none {s : State} {w : Word} : s.push w = none ↔ s.sp.val = 16 := by
  unfold State.push
  have := s.sp.isLt
  split
  · simp; omega
  · simp; omega

theorem State.pop_eq_some {s s' : State} {w : Word} (h : s.pop = some (w, s')) :
    ∃ hsp : s.sp.val - 1 < 16, 0 < s.sp.val ∧ w = s.stack[s.sp.val - 1] ∧
      s' = { s with sp := ⟨s.sp.val - 1, Nat.lt_trans hsp (by decide)⟩ } := by
  unfold State.pop at h
  split at h
  · obtain ⟨rfl, rfl⟩ := Prod.mk.inj (Option.some.inj h)
    exact ⟨_, ‹_›, rfl, rfl⟩
  · cases h

theorem State.pop_eq_none {s : State} : s.pop = none ↔ s.sp.val = 0 := by
  unfold State.pop
  split
  · simp; omega
  · simp; omega

/-! ### The access check -/

theorem State.accessFaults_eq_false {s : State} {a : Word} {n : Nat} {isWrite : Bool} :
    s.accessFaults a n isWrite = false ↔
      a.toNat + n - 1 ≤ 0xFFF ∧ (isWrite = true → s.cfg.reservedWrite = .fault → 0x200 ≤ a.toNat) := by
  rw [← Bool.not_eq_true]
  have hp : Config.programBase = 0x200 := rfl
  simp only [State.accessFaults, Bool.or_eq_true, Bool.and_eq_true, decide_eq_true_eq]
  constructor
  · intro h
    exact ⟨by omega, fun hw hr => Nat.le_of_not_lt fun hl => h (.inr ⟨⟨hw, hr⟩, by omega⟩)⟩
  · rintro ⟨h1, h2⟩ (h | ⟨⟨hw, hr⟩, hl⟩)
    · omega
    · have := h2 hw hr
      omega

/-! ### Block transfers -/

/-- Storing registers changes memory alone. -/
theorem State.storeFrom_eq (a n : Nat) (s : State) : ∃ m, State.storeFrom a n s = { s with mem := m } := by
  induction n with
  | zero => exact ⟨s.mem, rfl⟩
  | succ n ih =>
    obtain ⟨m, hm⟩ := ih
    exact ⟨_, by simp only [State.storeFrom, hm]; rfl⟩

theorem State.storeFrom_getV (a n : Nat) (s : State) (r : Nibble) : (State.storeFrom a n s).getV r = s.getV r := by
  obtain ⟨m, hm⟩ := State.storeFrom_eq a n s
  rw [hm]; rfl

theorem State.wf_storeFrom {s : State} (hm : Memory.wf s.cfg.fontBase s.mem = true) {a n : Nat}
    (h : a + n ≤ Config.memSize) :
    Memory.wf s.cfg.fontBase (State.storeFrom a n s).mem = true := by
  induction n with
  | zero => exact hm
  | succ n ih =>
    obtain ⟨m, hs⟩ := State.storeFrom_eq a n s
    have ih := ih (by omega)
    simp only [State.storeFrom]
    rw [hs] at ih ⊢
    exact Memory.wf_write ih (by omega) _

/-- Bytes outside a .. a+n-1 are not touched. -/
theorem State.storeFrom_readByte_outside (a n : Nat) (s : State) {b : Nat} (h : b < a ∨ a + n ≤ b) :
    (State.storeFrom a n s).readByte b = s.readByte b := by
  induction n with
  | zero => rfl
  | succ n ih =>
    simp only [State.storeFrom]
    rw [State.readByte_writeByte_other _ _ (by omega), ih (by omega)]

/-- Byte a + j holds V[j] for every j below n (at most 16). -/
theorem State.storeFrom_readByte_inside {s : State} (hm : Memory.wf s.cfg.fontBase s.mem = true) {a n : Nat}
    (h : a + n ≤ Config.memSize) {j : Nat} (hj : j < n) :
    (State.storeFrom a n s).readByte (a + j) = s.getV (BitVec.ofNat 4 j) := by
  induction n with
  | zero => omega
  | succ n ih =>
    simp only [State.storeFrom]
    by_cases hjn : j = n
    · subst hjn
      have hwf := State.wf_storeFrom hm (a := a) (n := j) (by omega)
      obtain ⟨m, hs⟩ := State.storeFrom_eq a j s
      rw [State.readByte_writeByte_same, State.storeFrom_getV]
      rw [hs] at hwf ⊢
      exact hwf
    · rw [State.readByte_writeByte_other _ _ (by omega), ih (by omega) (by omega)]

/-- Loading registers changes the registers alone. -/
theorem State.loadFrom_eq (a n : Nat) (s : State) : ∃ v, State.loadFrom a n s = { s with v := v } := by
  induction n with
  | zero => exact ⟨s.v, rfl⟩
  | succ n ih =>
    obtain ⟨m, hm⟩ := ih
    exact ⟨_, by simp only [State.loadFrom, hm]; rfl⟩

theorem State.loadFrom_readByte (a n : Nat) (s : State) (b : Nat) : (State.loadFrom a n s).readByte b = s.readByte b := by
  obtain ⟨v, hv⟩ := State.loadFrom_eq a n s
  rw [hv]; rfl

/-- V[j] is loaded for j below n (at most 16), and every other register is kept. -/
theorem State.loadFrom_getV (a : Nat) {n : Nat} (hn : n ≤ 16) (s : State) (r : Nibble) :
    (State.loadFrom a n s).getV r = if r.toNat < n then s.readByte (a + r.toNat) else s.getV r := by
  induction n with
  | zero => rfl
  | succ n ih =>
    simp only [State.loadFrom, State.getV_setV, State.loadFrom_readByte, ih (by omega)]
    have hr : r = BitVec.ofNat 4 n ↔ r.toNat = n := by
      rw [← BitVec.toNat_inj, BitVec.toNat_ofNat, Nat.mod_eq_of_lt (by omega)]
    by_cases h : r.toNat = n
    · simp only [if_pos (hr.2 h), h, Nat.lt_succ_self, if_true]
    · have : ¬ r = BitVec.ofNat 4 n := fun e => h (hr.1 e)
      simp only [this, if_false]
      by_cases h2 : r.toNat < n
      · simp [h2, Nat.lt_succ_of_lt h2]
      · simp [h2, show ¬ r.toNat < n + 1 by omega]

/-- Writing a byte list changes memory alone. -/
theorem State.writeBytes_eq (s : State) (a : Nat) (bs : List Byte) : ∃ m, s.writeBytes a bs = { s with mem := m } := by
  induction bs generalizing a with
  | nil => exact ⟨s.mem, rfl⟩
  | cons b rest ih =>
    obtain ⟨m, hm⟩ := ih (a + 1)
    exact ⟨_, by simp only [State.writeBytes, hm]; rfl⟩

theorem State.wf_writeBytes {s : State} (hm : Memory.wf s.cfg.fontBase s.mem = true) {a : Nat} {bs : List Byte}
    (h : a + bs.length ≤ Config.memSize) :
    Memory.wf s.cfg.fontBase (s.writeBytes a bs).mem = true := by
  induction bs generalizing a with
  | nil => exact hm
  | cons b rest ih =>
    simp only [List.length_cons] at h
    have ih := ih (a := a + 1) (by omega)
    obtain ⟨m, hs⟩ := State.writeBytes_eq s (a + 1) rest
    simp only [State.writeBytes]
    rw [hs] at ih ⊢
    exact Memory.wf_write ih (by omega) _

theorem State.writeBytes_readByte_outside (s : State) (a : Nat) (bs : List Byte) {b : Nat}
    (h : b < a ∨ a + bs.length ≤ b) : (s.writeBytes a bs).readByte b = s.readByte b := by
  induction bs generalizing a with
  | nil => rfl
  | cons c rest ih =>
    simp only [List.length_cons] at h
    simp only [State.writeBytes]
    rw [State.readByte_writeByte_other _ _ (by omega), ih _ (by omega)]

theorem State.writeBytes_readByte_inside {s : State} (hm : Memory.wf s.cfg.fontBase s.mem = true) {a : Nat}
    {bs : List Byte} (h : a + bs.length ≤ Config.memSize) {j : Nat} (hj : j < bs.length) :
    (s.writeBytes a bs).readByte (a + j) = bs[j] := by
  induction bs generalizing a j with
  | nil => simp at hj
  | cons c rest ih =>
    simp only [List.length_cons] at h hj
    simp only [State.writeBytes]
    cases j with
    | zero =>
      have hwf := State.wf_writeBytes hm (a := a + 1) (bs := rest) (by omega)
      obtain ⟨m, hs⟩ := State.writeBytes_eq s (a + 1) rest
      refine (State.readByte_writeByte_same ?_ a c).trans rfl
      rw [hs] at hwf ⊢
      exact hwf
    | succ j =>
      rw [State.readByte_writeByte_other _ _ (by omega), show a + (j + 1) = a + 1 + j by omega,
        ih (by omega) (by omega)]
      rfl

end Sys2Proof.Machine
end

