-- ==== Sys2Proof/Laws/Display.lean ====
section
/-! SUPPORT. What drawing does to a pixel and to the collision flag (45_display.md R181-R184). -/

namespace Sys2Proof.Machine

open Sys2Proof.Safety

/-- Toggling pixel (x, y) flips that pixel and no other. -/
theorem pixelOf_togglePixel (fb : Vector (BitVec 64) 32) {x px : Nat} (y py : Nat) (hx : x < 64) (hy : y < 32) :
    pixelOf (togglePixel fb x y) px py = (pixelOf fb px py ^^ (decide (px = x) && decide (py = y))) := by
  unfold togglePixel pixelOf
  rw [dif_pos hy]
  by_cases hpy : py < 32
  · rw [dif_pos hpy, dif_pos hpy]
    by_cases h : py = y
    · subst h
      rw [Vector.getElem_set_self, BitVec.getLsbD_xor]
      congr 1
      by_cases hpx : px = x
      · subst hpx; simp [hx]
      · have : ¬ (px < 64 ∧ x ≤ px ∧ px - x = 0) := by omega
        simp only [hpx, decide_false, Bool.false_and, BitVec.getLsbD_shiftLeft, BitVec.getLsbD_one]
        by_cases h1 : px < 64 <;> by_cases h2 : px < x <;> simp [h1, h2] <;> omega
    · rw [Vector.getElem_set_ne (h := fun e => h e.symm)]
      simp [h]
  · rw [dif_neg hpy, dif_neg hpy]
    have : py ≠ y := by omega
    simp [this]

/-- Sprite column c of a row lands on pixel column px. -/
def RowLit (x0 : Nat) (row : Byte) (n px : Nat) : Prop :=
  ∃ c, c < n ∧ (x0 + c) % 64 = px ∧ row.getLsbD (7 - c) = true

theorem rowLit_succ {x0 n px : Nat} {row : Byte} :
    RowLit x0 row (n + 1) px ↔ RowLit x0 row n px ∨ ((x0 + n) % 64 = px ∧ row.getLsbD (7 - n) = true) := by
  constructor
  · rintro ⟨c, hc, h⟩
    rcases Nat.lt_succ_iff_lt_or_eq.1 hc with h' | rfl
    · exact .inl ⟨c, h', h⟩
    · exact .inr h
  · rintro (⟨c, hc, h⟩ | h)
    · exact ⟨c, by omega, h⟩
    · exact ⟨n, by omega, h⟩

/-- The eight columns of a row are distinct. -/
theorem not_rowLit_next {x0 n : Nat} {row : Byte} (hn : n < 8) : ¬ RowLit x0 row n ((x0 + n) % 64) := by
  rintro ⟨c, hc, h, _⟩
  omega

/-- The first n columns of a row flip the pixels they light, on that row alone. -/
theorem drawRow_pixel {x0 y n : Nat} (row : Byte) (d : Canvas) (hn : n ≤ 8) (hy : y < 32) (px py : Nat) :
    pixelOf (drawRow x0 y row n d).fb px py = true ↔
      ¬ (pixelOf d.fb px py = true ↔ (py = y ∧ RowLit x0 row n px)) := by
  induction n with
  | zero => simp [drawRow, RowLit]
  | succ n ih =>
    have ih := ih (by omega)
    have hlit := not_rowLit_next (x0 := x0) (row := row) (show n < 8 by omega)
    simp only [drawRow, drawBit, rowLit_succ]
    by_cases hb : row.getLsbD (7 - n) = true
    · rw [if_pos hb]
      show pixelOf (togglePixel _ _ _) _ _ = true ↔ _
      rw [pixelOf_togglePixel _ _ _ (Nat.mod_lt _ (by decide)) hy]
      by_cases hp : px = (x0 + n) % 64 ∧ py = y
      · obtain ⟨rfl, rfl⟩ := hp
        simp only [hlit, and_false, iff_false, Classical.not_not] at ih
        simp only [hb, hlit]
        cases h1 : pixelOf (drawRow x0 py row n d).fb ((x0 + n) % 64) py <;>
          cases h2 : pixelOf d.fb ((x0 + n) % 64) py <;> simp_all
      · have hp' : (decide (px = (x0 + n) % 64) && decide (py = y)) = false := by
          simpa using hp
        rw [hp', Bool.xor_false, ih]
        have : (py = y ∧ RowLit x0 row n px) ↔
            (py = y ∧ (RowLit x0 row n px ∨ ((x0 + n) % 64 = px ∧ row.getLsbD (7 - n) = true))) := by
          constructor
          · rintro ⟨h1, h2⟩; exact ⟨h1, .inl h2⟩
          · rintro ⟨h1, h2 | h2⟩
            · exact ⟨h1, h2⟩
            · exact absurd ⟨h2.1.symm, h1⟩ hp
        rw [this]
    · rw [if_neg hb, ih]
      simp [hb]

/-- The first n columns of a row collide when one of them lights a pixel that was on. -/
theorem drawRow_collide {x0 y n : Nat} (row : Byte) (d : Canvas) (hn : n ≤ 8) (hy : y < 32) :
    (drawRow x0 y row n d).collide = true ↔
      d.collide = true ∨ ∃ px, px < 64 ∧ pixelOf d.fb px y = true ∧ RowLit x0 row n px := by
  induction n with
  | zero => simp [drawRow, RowLit]
  | succ n ih =>
    have ih := ih (by omega)
    have hlit := not_rowLit_next (x0 := x0) (row := row) (show n < 8 by omega)
    have hpix := drawRow_pixel (x0 := x0) (y := y) row d (n := n) (by omega) hy ((x0 + n) % 64) y
    simp only [hlit, and_false, iff_false, Classical.not_not] at hpix
    simp only [drawRow, drawBit, rowLit_succ]
    by_cases hb : row.getLsbD (7 - n) = true
    · rw [if_pos hb]
      show ((drawRow x0 y row n d).collide || pixelOf (drawRow x0 y row n d).fb ((x0 + n) % 64) y) = true ↔ _
      rw [Bool.or_eq_true, ih, hpix]
      constructor
      · rintro ((h | ⟨px, h1, h2, h3⟩) | h)
        · exact .inl h
        · exact .inr ⟨px, h1, h2, .inl h3⟩
        · exact .inr ⟨_, Nat.mod_lt _ (by decide), h, .inr ⟨rfl, hb⟩⟩
      · rintro (h | ⟨px, h1, h2, h3 | ⟨rfl, _⟩⟩)
        · exact .inl (.inl h)
        · exact .inl (.inr ⟨px, h1, h2, h3⟩)
        · exact .inr h2
    · rw [if_neg hb, ih]
      simp [hb]

theorem spriteLit_succ {s : State} {x0 y0 n x y : Nat} :
    SpriteLit s x0 y0 (n + 1) x y ↔
      SpriteLit s x0 y0 n x y ∨ (y0 + n = y ∧ RowLit x0 (s.readByte (s.i.toNat + n)) 8 x) := by
  constructor
  · rintro ⟨r, hr, h, hc⟩
    rcases Nat.lt_succ_iff_lt_or_eq.1 hr with h' | rfl
    · exact .inl ⟨r, h', h, hc⟩
    · exact .inr ⟨h, hc⟩
  · rintro (⟨r, hr, h, hc⟩ | ⟨h, hc⟩)
    · exact ⟨r, by omega, h, hc⟩
    · exact ⟨n, by omega, h, hc⟩

/-- Rows drawn so far lie above row y0 + n. -/
theorem not_spriteLit_next {s : State} {x0 y0 n x : Nat} : ¬ SpriteLit s x0 y0 n x (y0 + n) := by
  rintro ⟨r, hr, h, _⟩
  omega

/-- The first n rows of a sprite flip the pixels they light. -/
theorem drawRows_pixel (s : State) (x0 y0 n : Nat) (d : Canvas) (px : Nat) {py : Nat} (hpy : py < 32) :
    pixelOf (s.drawRows x0 y0 n d).fb px py = true ↔
      ¬ (pixelOf d.fb px py = true ↔ SpriteLit s x0 y0 n px py) := by
  induction n with
  | zero => simp [State.drawRows, SpriteLit]
  | succ n ih =>
    simp only [State.drawRows, spriteLit_succ]
    by_cases hc : y0 + n > 31
    · rw [if_pos hc, ih]
      have : ¬ y0 + n = py := by omega
      simp [this]
    · rw [if_neg hc, drawRow_pixel _ _ (Nat.le_refl 8) (by omega), ih]
      by_cases h : py = y0 + n
      · subst h
        simp [not_spriteLit_next]
      · have h' : ¬ y0 + n = py := fun e => h e.symm
        simp [h, h']

/-- The first n rows of a sprite collide when one of them lights a pixel that was on; clipped rows do not. -/
theorem drawRows_collide (s : State) (x0 y0 n : Nat) (d : Canvas) :
    (s.drawRows x0 y0 n d).collide = true ↔
      d.collide = true ∨ ∃ px py, px < 64 ∧ py < 32 ∧ pixelOf d.fb px py = true ∧ SpriteLit s x0 y0 n px py := by
  induction n with
  | zero => simp [State.drawRows, SpriteLit]
  | succ n ih =>
    simp only [State.drawRows, spriteLit_succ]
    by_cases hc : y0 + n > 31
    · rw [if_pos hc, ih]
      constructor
      · rintro (h | ⟨px, py, h1, h2, h3, h4⟩)
        · exact .inl h
        · exact .inr ⟨px, py, h1, h2, h3, .inl h4⟩
      · rintro (h | ⟨px, py, h1, h2, h3, h4 | ⟨h4, _⟩⟩)
        · exact .inl h
        · exact .inr ⟨px, py, h1, h2, h3, h4⟩
        · omega
    · rw [if_neg hc, drawRow_collide _ _ (Nat.le_refl 8) (by omega), ih]
      have hpix : ∀ px, pixelOf (s.drawRows x0 y0 n d).fb px (y0 + n) = true ↔ pixelOf d.fb px (y0 + n) = true := by
        intro px
        rw [drawRows_pixel s x0 y0 n d px (by omega)]
        simp [not_spriteLit_next]
      constructor
      · rintro ((h | ⟨px, py, h1, h2, h3, h4⟩) | ⟨px, h1, h2, h3⟩)
        · exact .inl h
        · exact .inr ⟨px, py, h1, h2, h3, .inl h4⟩
        · exact .inr ⟨px, y0 + n, h1, by omega, (hpix px).1 h2, .inr ⟨rfl, h3⟩⟩
      · rintro (h | ⟨px, py, h1, h2, h3, h4 | ⟨rfl, h4⟩⟩)
        · exact .inl (.inl h)
        · exact .inl (.inr ⟨px, py, h1, h2, h3, h4⟩)
        · exact .inr ⟨px, h1, (hpix px).2 h3, h4⟩

end Sys2Proof.Machine
end

