-- ==== Sys2Proof/Laws/PerInstr.lean ====
section
/-! SUPPORT. A statement for every instruction: its word has the fixed bits of its row in spec/opcode_table.json (30_encoding.md R77). -/

namespace Sys2Proof.Laws.MatchesRow

/-- The "mask" and "match" of an instruction's row. -/
def row : Instr → Word × Word
  | .sys _ => (0xF000, 0x0000)
  | .cls => (0xFFFF, 0x00E0)
  | .ret => (0xFFFF, 0x00EE)
  | .jp _ => (0xF000, 0x1000)
  | .call _ => (0xF000, 0x2000)
  | .seImm _ _ => (0xF000, 0x3000)
  | .sneImm _ _ => (0xF000, 0x4000)
  | .seReg _ _ => (0xF000, 0x5000)
  | .ldImm _ _ => (0xF000, 0x6000)
  | .addImm _ _ => (0xF000, 0x7000)
  | .ldReg _ _ => (0xF00F, 0x8000)
  | .orReg _ _ => (0xF00F, 0x8001)
  | .andReg _ _ => (0xF00F, 0x8002)
  | .xorReg _ _ => (0xF00F, 0x8003)
  | .addReg _ _ => (0xF00F, 0x8004)
  | .subReg _ _ => (0xF00F, 0x8005)
  | .shr _ _ => (0xF00F, 0x8006)
  | .subn _ _ => (0xF00F, 0x8007)
  | .shl _ _ => (0xF00F, 0x800E)
  | .sneReg _ _ => (0xF000, 0x9000)
  | .ldI _ => (0xF000, 0xA000)
  | .jpOffset _ => (0xF000, 0xB000)
  | .rnd _ _ => (0xF000, 0xC000)
  | .drw _ _ _ => (0xF000, 0xD000)
  | .skp _ => (0xF0FF, 0xE09E)
  | .sknp _ => (0xF0FF, 0xE0A1)
  | .ldVxDt _ => (0xF0FF, 0xF007)
  | .ldVxK _ => (0xF0FF, 0xF00A)
  | .ldDtVx _ => (0xF0FF, 0xF015)
  | .ldStVx _ => (0xF0FF, 0xF018)
  | .addI _ => (0xF0FF, 0xF01E)
  | .ldF _ => (0xF0FF, 0xF029)
  | .ldB _ => (0xF0FF, 0xF033)
  | .storeRegs _ => (0xF0FF, 0xF055)
  | .loadRegs _ => (0xF0FF, 0xF065)

/-- The word of the instruction, under the row's mask, is the row's match. -/
def Statement (i : Instr) : Prop := encode i &&& (row i).1 = (row i).2

theorem ones4 (x : Nibble) : x &&& 0xF#4 = x := BitVec.and_allOnes

theorem ones8 (x : Byte) : x &&& 0xFF#8 = x := BitVec.and_allOnes

theorem zero4 (x : Nibble) : x &&& 0x0#4 = 0x0#4 := BitVec.and_zero

theorem zero8 (x : Byte) : x &&& 0x00#8 = 0x00#8 := BitVec.and_zero

theorem zero12 (x : Addr) : x &&& 0x000#12 = 0x000#12 := BitVec.and_zero

theorem wordNNN_op (op : Nibble) (nnn : Addr) : wordNNN op nnn &&& 0xF000 = wordNNN op 0 := by
  show (op ++ nnn) &&& (0xF#4 ++ 0x000#12) = op ++ 0x000#12
  rw [BitVec.and_append]
  simp only [ones4, zero12]

theorem wordXNN_op (op x : Nibble) (nn : Byte) : wordXNN op x nn &&& 0xF000 = wordXNN op 0 0 := by
  show (op ++ x ++ nn) &&& (0xF#4 ++ 0x0#4 ++ 0x00#8) = op ++ 0x0#4 ++ 0x00#8
  rw [BitVec.and_append, BitVec.and_append]
  simp only [ones4, zero4, zero8]

theorem wordXNN_op_nn (op x : Nibble) (nn : Byte) : wordXNN op x nn &&& 0xF0FF = wordXNN op 0 nn := by
  show (op ++ x ++ nn) &&& (0xF#4 ++ 0x0#4 ++ 0xFF#8) = op ++ 0x0#4 ++ nn
  rw [BitVec.and_append, BitVec.and_append]
  simp only [ones4, zero4, ones8]

theorem wordXYN_op (op x y n : Nibble) : wordXYN op x y n &&& 0xF000 = wordXYN op 0 0 0 := by
  show (op ++ x ++ y ++ n) &&& (0xF#4 ++ 0x0#4 ++ 0x0#4 ++ 0x0#4) = op ++ 0x0#4 ++ 0x0#4 ++ 0x0#4
  rw [BitVec.and_append, BitVec.and_append, BitVec.and_append]
  simp only [ones4, zero4]

theorem wordXYN_op_n (op x y n : Nibble) : wordXYN op x y n &&& 0xF00F = wordXYN op 0 0 n := by
  show (op ++ x ++ y ++ n) &&& (0xF#4 ++ 0x0#4 ++ 0x0#4 ++ 0xF#4) = op ++ 0x0#4 ++ 0x0#4 ++ n
  rw [BitVec.and_append, BitVec.and_append, BitVec.and_append]
  simp only [ones4, zero4]

theorem sys (nnn : Addr) : Statement (.sys nnn) := (wordNNN_op _ nnn).trans rfl

theorem cls : Statement .cls := rfl

theorem ret : Statement .ret := rfl

theorem jp (nnn : Addr) : Statement (.jp nnn) := (wordNNN_op _ nnn).trans rfl

theorem call (nnn : Addr) : Statement (.call nnn) := (wordNNN_op _ nnn).trans rfl

theorem seImm (x : Nibble) (nn : Byte) : Statement (.seImm x nn) := (wordXNN_op _ x nn).trans rfl

theorem sneImm (x : Nibble) (nn : Byte) : Statement (.sneImm x nn) := (wordXNN_op _ x nn).trans rfl

theorem seReg (x : Nibble) (y : Nibble) : Statement (.seReg x y) := (wordXYN_op _ x y _).trans rfl

theorem ldImm (x : Nibble) (nn : Byte) : Statement (.ldImm x nn) := (wordXNN_op _ x nn).trans rfl

theorem addImm (x : Nibble) (nn : Byte) : Statement (.addImm x nn) := (wordXNN_op _ x nn).trans rfl

theorem ldReg (x : Nibble) (y : Nibble) : Statement (.ldReg x y) := (wordXYN_op_n _ x y _).trans rfl

theorem orReg (x : Nibble) (y : Nibble) : Statement (.orReg x y) := (wordXYN_op_n _ x y _).trans rfl

theorem andReg (x : Nibble) (y : Nibble) : Statement (.andReg x y) := (wordXYN_op_n _ x y _).trans rfl

theorem xorReg (x : Nibble) (y : Nibble) : Statement (.xorReg x y) := (wordXYN_op_n _ x y _).trans rfl

theorem addReg (x : Nibble) (y : Nibble) : Statement (.addReg x y) := (wordXYN_op_n _ x y _).trans rfl

theorem subReg (x : Nibble) (y : Nibble) : Statement (.subReg x y) := (wordXYN_op_n _ x y _).trans rfl

theorem shr (x : Nibble) (y : Nibble) : Statement (.shr x y) := (wordXYN_op_n _ x y _).trans rfl

theorem subn (x : Nibble) (y : Nibble) : Statement (.subn x y) := (wordXYN_op_n _ x y _).trans rfl

theorem shl (x : Nibble) (y : Nibble) : Statement (.shl x y) := (wordXYN_op_n _ x y _).trans rfl

theorem sneReg (x : Nibble) (y : Nibble) : Statement (.sneReg x y) := (wordXYN_op _ x y _).trans rfl

theorem ldI (nnn : Addr) : Statement (.ldI nnn) := (wordNNN_op _ nnn).trans rfl

theorem jpOffset (nnn : Addr) : Statement (.jpOffset nnn) := (wordNNN_op _ nnn).trans rfl

theorem rnd (x : Nibble) (nn : Byte) : Statement (.rnd x nn) := (wordXNN_op _ x nn).trans rfl

theorem drw (x : Nibble) (y : Nibble) (n : Nibble) : Statement (.drw x y n) := (wordXYN_op _ x y n).trans rfl

theorem skp (x : Nibble) : Statement (.skp x) := (wordXNN_op_nn _ x _).trans rfl

theorem sknp (x : Nibble) : Statement (.sknp x) := (wordXNN_op_nn _ x _).trans rfl

theorem ldVxDt (x : Nibble) : Statement (.ldVxDt x) := (wordXNN_op_nn _ x _).trans rfl

theorem ldVxK (x : Nibble) : Statement (.ldVxK x) := (wordXNN_op_nn _ x _).trans rfl

theorem ldDtVx (x : Nibble) : Statement (.ldDtVx x) := (wordXNN_op_nn _ x _).trans rfl

theorem ldStVx (x : Nibble) : Statement (.ldStVx x) := (wordXNN_op_nn _ x _).trans rfl

theorem addI (x : Nibble) : Statement (.addI x) := (wordXNN_op_nn _ x _).trans rfl

theorem ldF (x : Nibble) : Statement (.ldF x) := (wordXNN_op_nn _ x _).trans rfl

theorem ldB (x : Nibble) : Statement (.ldB x) := (wordXNN_op_nn _ x _).trans rfl

theorem storeRegs (x : Nibble) : Statement (.storeRegs x) := (wordXNN_op_nn _ x _).trans rfl

theorem loadRegs (x : Nibble) : Statement (.loadRegs x) := (wordXNN_op_nn _ x _).trans rfl

end Sys2Proof.Laws.MatchesRow
end

