-- ==== Sys2Proof/Laws/Step.lean ====
section
/-! SUPPORT. What a step can do: the command that comes next, the five outcomes of a STEP, and invariants in five small goals. -/

namespace Sys2Proof.Machine

open Sys2Proof.Safety

/-! ### The command that comes next -/

theorem step_of_pending_nil {s : State} (h : s.pending = []) : step s = stepCommand s.sampleFree := by
  simp only [step, performNext, h]

theorem step_of_pending_cons {s : State} {c : HostCommand} {rest : List HostCommand} (h : s.pending = c :: rest) :
    step s = performCommand c (s.takePending rest) := by
  simp only [step, performNext, h]

/-- A listed STEP begins in Safety's stepStart. -/
theorem begin_of_listed_step (s : State) (k : Word) (b : Byte) (rest : List HostCommand) :
    ((s.takePending rest).sample k b).begin = stepStart s k b rest := rfl

/-! ### STEP -/

theorem stepCommand_of_halted {s : State} (h : s.faultCode ≠ .none) : stepCommand s = .next s.begin := by
  have hh : s.begin.halted = true := by simpa [State.halted] using h
  simp only [stepCommand, hh, if_true]

theorem stepCommand_of_waiting {s : State} (h : s.faultCode = .none) (hw : s.awaiting = true) :
    stepCommand s = .next s.begin.waitPoll := by
  have hh : s.begin.halted = false := by simpa [State.halted] using h
  simp [stepCommand, hh, hw]

theorem stepCommand_of_fetching {s : State} (h : s.faultCode = .none) (hw : s.awaiting = false) :
    stepCommand s = fetchExecute s.begin := by
  have hh : s.begin.halted = false := by simpa [State.halted] using h
  simp [stepCommand, hh, hw]

theorem fetchExecute_of_pc_high {s : State} (h : s.pc.toNat > 0x0FFE) :
    fetchExecute s = .next (s.raise .addressError 0x0000) := by
  simp only [fetchExecute, if_pos h]

theorem fetchExecute_of_unknown {s : State} {w : Word} (h : s.pc.toNat ≤ 0x0FFE)
    (hd : decodeWord (wordAtPc s) = .unknown w) : fetchExecute s = .next (s.raise .unknownOpcode w) := by
  have hd : decodeWord s.fetchWord = .unknown w := hd
  simp only [fetchExecute, if_neg (Nat.not_lt.2 h), hd]

theorem fetchExecute_of_instr {s : State} {i : Instr} (h : s.pc.toNat ≤ 0x0FFE)
    (hd : decodeWord (wordAtPc s) = .instr i) : fetchExecute s = exec i s := by
  have hd : decodeWord s.fetchWord = .instr i := hd
  simp only [fetchExecute, if_neg (Nat.not_lt.2 h), hd]

/-- Everything a STEP can do. -/
theorem stepCommand_cases {s t : State} (h : stepCommand s = .next t) :
    (s.faultCode ≠ .none ∧ t = s.begin) ∨
    (s.faultCode = .none ∧ s.awaiting = true ∧ t = s.begin.waitPoll) ∨
    (s.faultCode = .none ∧ s.awaiting = false ∧ s.pc.toNat > 0x0FFE ∧ t = s.begin.raise .addressError 0x0000) ∨
    (Fetches s ∧ ∃ w, decodeWord (wordAtPc s) = .unknown w ∧ t = s.begin.raise .unknownOpcode w) ∨
    (Fetches s ∧ ∃ i, decodeWord (wordAtPc s) = .instr i ∧ exec i s.begin = .next t) := by
  by_cases hf : s.faultCode = .none
  · cases hw : s.awaiting with
    | true =>
      rw [stepCommand_of_waiting hf hw] at h
      exact .inr (.inl ⟨hf, rfl, (Host.Outcome.next.inj h).symm⟩)
    | false =>
      rw [stepCommand_of_fetching hf hw] at h
      by_cases hp : s.pc.toNat > 0x0FFE
      · rw [fetchExecute_of_pc_high (s := s.begin) hp] at h
        exact .inr (.inr (.inl ⟨hf, rfl, hp, (Host.Outcome.next.inj h).symm⟩))
      · have hF : Fetches s := ⟨hf, hw, Nat.le_of_not_lt hp⟩
        cases hd : decodeWord (wordAtPc s) with
        | unknown w =>
          rw [fetchExecute_of_unknown (s := s.begin) hF.2.2 hd] at h
          exact .inr (.inr (.inr (.inl ⟨hF, w, rfl, (Host.Outcome.next.inj h).symm⟩)))
        | instr i =>
          rw [fetchExecute_of_instr (s := s.begin) hF.2.2 hd] at h
          exact .inr (.inr (.inr (.inr ⟨hF, i, rfl, h⟩)))
  · rw [stepCommand_of_halted hf] at h
    exact .inl ⟨hf, (Host.Outcome.next.inj h).symm⟩

/-! ### Invariants -/

/-- What a claim about the core may read: the state without the input ports, the host's list and the draw counter. -/
def State.core (s : State) : State := { s with keys := 0, rand := 0, pending := [], draws := 0 }

/-- An invariant that reads neither the ports nor the host's list is kept by every step when each of the five commands keeps it. -/
theorem step_keeps_of_commands {P : State → Prop} (hcore : ∀ s s' : State, s'.core = s.core → P s → P s')
    (hstep : ∀ s t, P s → stepCommand s = .next t → P t) (htick : ∀ s, P s → P s.tick)
    (hreset : ∀ s, P s → P s.resetCommand) (hpower : ∀ s, P s → P s.powerOnCommand)
    (hload : ∀ s rom, P s → P (s.loadCommand rom)) {s t : State} (h : P s) (e : step s = .next t) : P t := by
  cases hp : s.pending with
  | nil =>
    rw [step_of_pending_nil hp] at e
    exact hstep s.sampleFree t (hcore s _ rfl h) e
  | cons c rest =>
    rw [step_of_pending_cons hp] at e
    have h' : P (s.takePending rest) := hcore s _ rfl h
    cases c with
    | powerOn => exact Host.Outcome.next.inj e ▸ hpower _ h'
    | step k b => exact hstep ((s.takePending rest).sample k b) t (hcore s _ rfl h) e
    | tick => exact Host.Outcome.next.inj e ▸ htick _ h'
    | reset => exact Host.Outcome.next.inj e ▸ hreset _ h'
    | load rom => exact Host.Outcome.next.inj e ▸ hload _ rom h'

end Sys2Proof.Machine
end

