-- ==== Sys2Proof/Tests/Slice0.lean ====
section
/-! SUPPORT. Tests. Expected values come from spec/30_encoding.md R77 and spec/95_test_vectors.md, never from the model. -/

namespace Sys2Proof.Tests

open Sys2Proof.Machine Sys2Proof.Safety

/-! ### Helpers -/

/-- The power-on state with some registers set (the start states of 95_test_vectors.md). -/
def withRegs (vs : List (Nibble × Byte)) : State := vs.foldl (fun s p => s.setV p.1 p.2) State.reset

/-- One STEP of the word w, stored at PC, and a check of the state after it. -/
def stepWord (w : Nat) (s : State) (check : State → Bool) : Bool :=
  match step (s.withFetchWord 16 w) with
  | .next t => check t
  | _ => false

/-- One host command from a state, and a check of the state after it. -/
def command (c : HostCommand) (s : State) (check : State → Bool) : Bool :=
  match step { s with pending := [c] } with
  | .next t => check t
  | _ => false

/-- A fault record as the vectors write it: FAULT name (pc, word). -/
def faulted (code : FaultCode) (pc word : Word) (t : State) : Bool :=
  t.faultCode == code && t.faultPc == pc && t.faultWord == word && t.pc == pc

/-! ### Well-formedness: each check refuses an ill-formed term (R80) -/

theorem test_illformed_sys_cls : (Instr.sys 0x0E0).wellFormed = false := by decide

theorem test_illformed_sys_ret : (Instr.sys 0x0EE).wellFormed = false := by decide

theorem test_wellformed_sys : (Instr.sys 0x1E0).wellFormed = true := by decide

/-! ### Decoding: a word written out from R77 for every form -/

theorem test_decode_sys : decodeWord 0x0123 = .instr (.sys 0x123) := by decide

theorem test_decode_cls : decodeWord 0x00E0 = .instr (.cls) := by decide

theorem test_decode_ret : decodeWord 0x00EE = .instr (.ret) := by decide

theorem test_decode_jp : decodeWord 0x1234 = .instr (.jp 0x234) := by decide

theorem test_decode_call : decodeWord 0x2ABC = .instr (.call 0xABC) := by decide

theorem test_decode_seImm : decodeWord 0x3312 = .instr (.seImm 0x3 0x12) := by decide

theorem test_decode_sneImm : decodeWord 0x4FA5 = .instr (.sneImm 0xF 0xA5) := by decide

theorem test_decode_seReg : decodeWord 0x5120 = .instr (.seReg 0x1 0x2) := by decide

theorem test_decode_ldImm : decodeWord 0x6A7B = .instr (.ldImm 0xA 0x7B) := by decide

theorem test_decode_addImm : decodeWord 0x7103 = .instr (.addImm 0x1 0x03) := by decide

theorem test_decode_ldReg : decodeWord 0x8120 = .instr (.ldReg 0x1 0x2) := by decide

theorem test_decode_orReg : decodeWord 0x8121 = .instr (.orReg 0x1 0x2) := by decide

theorem test_decode_andReg : decodeWord 0x8122 = .instr (.andReg 0x1 0x2) := by decide

theorem test_decode_xorReg : decodeWord 0x8123 = .instr (.xorReg 0x1 0x2) := by decide

theorem test_decode_addReg : decodeWord 0x8F14 = .instr (.addReg 0xF 0x1) := by decide

theorem test_decode_subReg : decodeWord 0x8125 = .instr (.subReg 0x1 0x2) := by decide

theorem test_decode_shr : decodeWord 0x8126 = .instr (.shr 0x1 0x2) := by decide

theorem test_decode_subn : decodeWord 0x8127 = .instr (.subn 0x1 0x2) := by decide

theorem test_decode_shl : decodeWord 0x812E = .instr (.shl 0x1 0x2) := by decide

theorem test_decode_sneReg : decodeWord 0x9120 = .instr (.sneReg 0x1 0x2) := by decide

theorem test_decode_ldI : decodeWord 0xA300 = .instr (.ldI 0x300) := by decide

theorem test_decode_jpOffset : decodeWord 0xB3FF = .instr (.jpOffset 0x3FF) := by decide

theorem test_decode_rnd : decodeWord 0xC30F = .instr (.rnd 0x3 0x0F) := by decide

theorem test_decode_drw : decodeWord 0xD125 = .instr (.drw 0x1 0x2 0x5) := by decide

theorem test_decode_skp : decodeWord 0xE59E = .instr (.skp 0x5) := by decide

theorem test_decode_sknp : decodeWord 0xE5A1 = .instr (.sknp 0x5) := by decide

theorem test_decode_ldVxDt : decodeWord 0xF107 = .instr (.ldVxDt 0x1) := by decide

theorem test_decode_ldVxK : decodeWord 0xF30A = .instr (.ldVxK 0x3) := by decide

theorem test_decode_ldDtVx : decodeWord 0xF115 = .instr (.ldDtVx 0x1) := by decide

theorem test_decode_ldStVx : decodeWord 0xF118 = .instr (.ldStVx 0x1) := by decide

theorem test_decode_addI : decodeWord 0xF21E = .instr (.addI 0x2) := by decide

theorem test_decode_ldF : decodeWord 0xF029 = .instr (.ldF 0x0) := by decide

theorem test_decode_ldB : decodeWord 0xFA33 = .instr (.ldB 0xA) := by decide

theorem test_decode_storeRegs : decodeWord 0xF155 = .instr (.storeRegs 0x1) := by decide

theorem test_decode_loadRegs : decodeWord 0xFF65 = .instr (.loadRegs 0xF) := by decide

/-- V-DEC-1 -/
theorem test_decode_unknown_8008 : decodeWord 0x8008 = .unknown 0x8008 := by decide

/-- V-DEC-4 -/
theorem test_decode_unknown_E59F : decodeWord 0xE59F = .unknown 0xE59F := by decide

/-- V-DEC-6 -/
theorem test_decode_unknown_F0FF : decodeWord 0xF0FF = .unknown 0xF0FF := by decide

/-- E9 -/
theorem test_decode_unknown_FFFF : decodeWord 0xFFFF = .unknown 0xFFFF := by decide

/-- R81: the low nibble of class 5 is not examined (V-DEC-9). -/
theorem test_decode_5121 : decodeWord 0x5121 = .instr (.seReg 0x1 0x2) := by decide

/-- R80: a class-0 word with another high nibble is SYS (V-DEC-7). -/
theorem test_decode_01E0 : decodeWord 0x01E0 = .instr (.sys 0x1E0) := by decide

/-- R52: the byte at the lower address is the high byte of the word. -/
theorem test_decode_bytes : decodeBytes [0x12, 0x34, 0x56] = some (.instr (.jp 0x234), [0x56]) := by decide

/-- The table numbers bit 0 as the word's least significant. -/
theorem test_decode_table_word : decodeTableWord 16 0xD125 = some (.drw 0x1 0x2 0x5) := by decide

/-! ### Instructions: one STEP each, from 95_test_vectors.md -/

/-- V-FLOW-1 -/
theorem test_sys_ignored :
    stepWord 0x0123 State.reset (fun t => t.pc == 0x202 && t.faultCode == .none) = true := by decide

/-- V-DEC-13 -/
theorem test_sys_fault :
    stepWord 0x0123 { State.reset with cfg := { Params.default with sysMode := .fault } } (faulted .unknownOpcode 0x200 0x0123) = true := by decide

/-- E2 -/
theorem test_cls :
    stepWord 0x00E0 { State.reset with fb := Vector.replicate 32 0x8000000000000421 } (fun t => !t.pixel 0 0 && !t.pixel 63 31 && !t.pixel 10 5 && t.pc == 0x202 && !t.displayChanged) = true := by decide

/-- V-FLOW-6 -/
theorem test_ret :
    stepWord 0x00EE { State.reset with pc := 0x300, sp := 1, stack := State.reset.stack.set 0 0x202 } (fun t => t.sp == 0 && t.pc == 0x202 && t.stack[0] == 0x202) = true := by decide

/-- V-FLOW-5 -/
theorem test_ret_underflow :
    stepWord 0x00EE State.reset (faulted .stackUnderflow 0x200 0x00EE) = true := by decide

/-- V-FLOW-2 -/
theorem test_jp :
    stepWord 0x1234 State.reset (fun t => t.pc == 0x234) = true := by decide

/-- V-FLOW-3 -/
theorem test_call :
    stepWord 0x2300 State.reset (fun t => t.stack[0] == 0x202 && t.sp == 1 && t.pc == 0x300) = true := by decide

/-- V-FLOW-4 -/
theorem test_call_overflow :
    stepWord 0x2300 { State.reset with sp := 16 } (fun t => faulted .stackOverflow 0x200 0x2300 t && t.sp == 16) = true := by decide

/-- V-FLOW-7 -/
theorem test_seImm_skips :
    stepWord 0x3312 (withRegs [(3, 0x12)]) (fun t => t.pc == 0x204) = true := by decide

/-- V-FLOW-8 -/
theorem test_seImm_not :
    stepWord 0x3313 (withRegs [(3, 0x12)]) (fun t => t.pc == 0x202) = true := by decide

/-- V-FLOW-9 -/
theorem test_sneImm_not :
    stepWord 0x4312 (withRegs [(3, 0x12)]) (fun t => t.pc == 0x202) = true := by decide

/-- V-FLOW-10 -/
theorem test_sneImm_skips :
    stepWord 0x4300 (withRegs [(3, 0x12)]) (fun t => t.pc == 0x204) = true := by decide

/-- V-FLOW-11 -/
theorem test_seReg_skips :
    stepWord 0x5120 (withRegs [(1, 0x07), (2, 0x07)]) (fun t => t.pc == 0x204) = true := by decide

/-- V-FLOW-12 -/
theorem test_seReg_not :
    stepWord 0x5120 (withRegs [(1, 0x07), (2, 0x08)]) (fun t => t.pc == 0x202) = true := by decide

/-- V-FLOW-13 -/
theorem test_sneReg_skips :
    stepWord 0x9120 (withRegs [(1, 0x07), (2, 0x08)]) (fun t => t.pc == 0x204) = true := by decide

/-- V-FLOW-14 -/
theorem test_sneReg_same :
    stepWord 0x9110 (withRegs [(1, 0x07)]) (fun t => t.pc == 0x202) = true := by decide

/-- V-FLOW-16 -/
theorem test_jpOffset_top :
    stepWord 0xBFFF (withRegs [(0, 0xFF)]) (fun t => t.pc == 0x10FE && t.faultCode == .none) = true := by decide

/-- V-FLOW-17 -/
theorem test_jpOffset_vx :
    stepWord 0xB300 { withRegs [(0, 0x10), (3, 0x20)] with cfg := { Params.default with jumpOffsetReg := .vx } } (fun t => t.pc == 0x320) = true := by decide

/-- V-IMM-1 -/
theorem test_ldImm :
    stepWord 0x6A7B State.reset (fun t => t.getV 0xA == 0x7B && t.pc == 0x202) = true := by decide

/-- V-IMM-2 -/
theorem test_ldImm_vf :
    stepWord 0x6F00 (withRegs [(0xF, 0x01)]) (fun t => t.getV 0xF == 0x00) = true := by decide

/-- V-IMM-3 -/
theorem test_addImm_wraps :
    stepWord 0x7103 (withRegs [(1, 0xFE), (0xF, 0x55)]) (fun t => t.getV 1 == 0x01 && t.getV 0xF == 0x55) = true := by decide

/-- V-IMM-5 -/
theorem test_addImm_vf :
    stepWord 0x7F01 (withRegs [(0xF, 0xFF)]) (fun t => t.getV 0xF == 0x00) = true := by decide

/-- V-ALU-1 -/
theorem test_ldReg :
    stepWord 0x8120 (withRegs [(2, 0x5A)]) (fun t => t.getV 1 == 0x5A && t.getV 2 == 0x5A) = true := by decide

/-- V-ALU-2 -/
theorem test_orReg :
    stepWord 0x8121 (withRegs [(1, 0xF0), (2, 0x0F), (0xF, 0x05)]) (fun t => t.getV 1 == 0xFF && t.getV 0xF == 0x00) = true := by decide

/-- V-ALU-6 -/
theorem test_orReg_vf :
    stepWord 0x8F11 (withRegs [(0xF, 0x0F), (1, 0xF0)]) (fun t => t.getV 0xF == 0x00) = true := by decide

/-- V-ALU-3 -/
theorem test_andReg :
    stepWord 0x8122 (withRegs [(1, 0xF0), (2, 0x3C), (0xF, 0x05)]) (fun t => t.getV 1 == 0x30 && t.getV 0xF == 0x00) = true := by decide

/-- V-ALU-5 -/
theorem test_andReg_preserve :
    stepWord 0x8122 { withRegs [(1, 0xF0), (2, 0x3C), (0xF, 0x05)] with cfg := { Params.default with logicVfMode := .preserve } } (fun t => t.getV 1 == 0x30 && t.getV 0xF == 0x05) = true := by decide

/-- V-ALU-4 -/
theorem test_xorReg :
    stepWord 0x8123 (withRegs [(1, 0xFF), (2, 0x0F), (0xF, 0x05)]) (fun t => t.getV 1 == 0xF0 && t.getV 0xF == 0x00) = true := by decide

/-- V-ALU-9 -/
theorem test_addReg_vf :
    stepWord 0x8F14 (withRegs [(0xF, 0x80), (1, 0x80)]) (fun t => t.getV 0xF == 0x01) = true := by decide

/-- V-ALU-10 -/
theorem test_addReg_y_vf :
    stepWord 0x81F4 (withRegs [(0xF, 0x01), (1, 0x02)]) (fun t => t.getV 1 == 0x03 && t.getV 0xF == 0x00) = true := by decide

/-- V-ALU-12 -/
theorem test_subReg_equal :
    stepWord 0x8125 (withRegs [(1, 0x05), (2, 0x05)]) (fun t => t.getV 1 == 0x00 && t.getV 0xF == 1) = true := by decide

/-- V-ALU-13 -/
theorem test_subReg_borrow :
    stepWord 0x8125 (withRegs [(1, 0x00), (2, 0x01)]) (fun t => t.getV 1 == 0xFF && t.getV 0xF == 0) = true := by decide

/-- V-ALU-14 -/
theorem test_subn :
    stepWord 0x8127 (withRegs [(1, 0x03), (2, 0x0A)]) (fun t => t.getV 1 == 0x07 && t.getV 0xF == 1) = true := by decide

/-- V-ALU-15 -/
theorem test_subn_borrow :
    stepWord 0x8127 (withRegs [(1, 0x01), (2, 0x00)]) (fun t => t.getV 1 == 0xFF && t.getV 0xF == 0) = true := by decide

/-- V-ALU-17 -/
theorem test_shr_vy :
    stepWord 0x8126 { withRegs [(1, 0x05), (2, 0x08)] with cfg := { Params.default with shiftSrc := .vy } } (fun t => t.getV 1 == 0x04 && t.getV 0xF == 0 && t.getV 2 == 0x08) = true := by decide

/-- V-ALU-18 -/
theorem test_shr_vf :
    stepWord 0x8F06 (withRegs [(0xF, 0x02)]) (fun t => t.getV 0xF == 0x00) = true := by decide

/-- V-ALU-19 -/
theorem test_shl :
    stepWord 0x812E (withRegs [(1, 0x81)]) (fun t => t.getV 1 == 0x02 && t.getV 0xF == 1) = true := by decide

/-- V-ALU-20 -/
theorem test_shl_no_carry :
    stepWord 0x812E (withRegs [(1, 0x40)]) (fun t => t.getV 1 == 0x80 && t.getV 0xF == 0) = true := by decide

/-- V-MEM-1 -/
theorem test_ldI :
    stepWord 0xA300 { State.reset with i := 0x0FFF } (fun t => t.i == 0x0300) = true := by decide

/-- V-MEM-3 -/
theorem test_addI_top :
    stepWord 0xF11E { State.reset with i := 0xFFF } (fun t => t.i == 0xFFF && t.pc == 0x202) = true := by decide

/-- V-MEM-4 -/
theorem test_addI_fault :
    stepWord 0xF11E { withRegs [(1, 0x01)] with i := 0xFFF } (fun t => faulted .addressError 0x200 0xF11E t && t.i == 0xFFF) = true := by decide

/-- V-MEM-6 -/
theorem test_ldF :
    stepWord 0xF029 (withRegs [(0, 0x1A)]) (fun t => t.i == 0x082) = true := by decide

/-- V-MEM-9 -/
theorem test_ldB :
    stepWord 0xFA33 { withRegs [(0xA, 0xFF)] with i := 0x300 } (fun t => t.readByte 0x300 == 2 && t.readByte 0x301 == 5 && t.readByte 0x302 == 5 && t.i == 0x300) = true := by decide

/-- V-MEM-11 -/
theorem test_ldB_reserved :
    stepWord 0xFA33 { withRegs [(0xA, 0xFF)] with i := 0x100 } (fun t => faulted .addressError 0x200 0xFA33 t && t.readByte 0x100 == 0) = true := by decide

/-- V-MEM-15 -/
theorem test_storeRegs_plus :
    stepWord 0xF155 { withRegs [(0, 1), (1, 2), (2, 3)] with i := 0x300, cfg := { Params.default with ldstIMode := .plusXPlus1 } } (fun t => t.readByte 0x300 == 1 && t.readByte 0x301 == 2 && t.readByte 0x302 == 0 && t.i == 0x302) = true := by decide

/-- V-MEM-18 -/
theorem test_storeRegs_fault :
    stepWord 0xFF55 { State.reset with pc := 0x300, i := 0xFF1 } (faulted .addressError 0x300 0xFF55) = true := by decide

/-- V-MEM-21 -/
theorem test_loadRegs_font :
    stepWord 0xF465 { withRegs [(5, 7)] with i := 0x050 } (fun t => t.getV 0 == 0xF0 && t.getV 1 == 0x90 && t.getV 4 == 0xF0 && t.getV 5 == 7 && t.i == 0x050) = true := by decide

/-- V-MEM-23 -/
theorem test_loadRegs_fault :
    stepWord 0xFF65 { State.reset with pc := 0x300, i := 0xFF1 } (faulted .addressError 0x300 0xFF65) = true := by decide

/-- V-DRW-6 -/
theorem test_drw_wrap_clip :
    stepWord 0xD125 { withRegs [(1, 62), (2, 30)] with i := 0x082 } (fun t => t.fb[30] == 0xC000000000000003 && t.fb[31] == 0x4000000000000002 && t.fb[0] == 0 && t.getV 0xF == 0 && t.displayChanged) = true := by decide

/-- V-DRW-9 -/
theorem test_drw_clipped_rows_checked :
    stepWord 0xD123 { withRegs [(2, 31)] with i := 0xFFE } (fun t => faulted .addressError 0x200 0xD123 t && !t.displayChanged) = true := by decide

/-- V-RND-1 -/
theorem test_rnd :
    stepWord 0xC30F { State.reset with rand := 0xB7 } (fun t => t.getV 3 == 0x07) = true := by decide

/-- V-RND-4 -/
theorem test_rnd_vf :
    stepWord 0xCFF0 { State.reset with rand := 0x3C } (fun t => t.getV 0xF == 0x30) = true := by decide

/-- V-KEY-3 -/
theorem test_skp :
    stepWord 0xE59E { withRegs [(5, 0x1A)] with keys := 0x0400 } (fun t => t.pc == 0x204) = true := by decide

/-- V-KEY-2 -/
theorem test_skp_not :
    stepWord 0xE59E (withRegs [(5, 0x0A)]) (fun t => t.pc == 0x202) = true := by decide

/-- V-KEY-4 -/
theorem test_sknp :
    stepWord 0xE5A1 (withRegs [(5, 0x0A)]) (fun t => t.pc == 0x204) = true := by decide

/-- V-KEY-5 -/
theorem test_sknp_not :
    stepWord 0xE5A1 { withRegs [(5, 0x0A)] with keys := 0x0400 } (fun t => t.pc == 0x202) = true := by decide

/-- V-TMR-1 -/
theorem test_ldVxDt :
    stepWord 0xF107 { State.reset with dt := 0x2A } (fun t => t.getV 1 == 0x2A && t.dt == 0x2A) = true := by decide

/-- V-KEY-6, first STEP -/
theorem test_ldVxK :
    stepWord 0xF30A { State.reset with pc := 0x300, keys := 0x0020 } (fun t => t.awaiting && t.awaitX == 3 && t.keyBase == 0x0020 && t.pc == 0x300) = true := by decide

/-- V-TMR-4 -/
theorem test_ldDtVx :
    stepWord 0xF115 { State.reset with dt := 5 } (fun t => t.dt == 0 && t.pc == 0x202) = true := by decide

/-- V-TMR-2 -/
theorem test_ldStVx :
    stepWord 0xF118 (withRegs [(1, 0x02)]) (fun t => t.st == 2 && t.dt == 0 && t.outputs.tone) = true := by decide

/-! ### The cycle driver and the other commands -/

/-- V-DEC-10: odd PC is legal -/
theorem test_odd_pc :
    command (.step 0 0) { State.reset with pc := 0x201, mem := [(0x201, 0x12), (0x202, 0x34)] } (fun t => t.pc == 0x234) = true := by decide

/-- V-DEC-11, second STEP -/
theorem test_fetch_at_top :
    command (.step 0 0) { State.reset with pc := 0xFFF } (faulted .addressError 0xFFF 0x0000) = true := by decide

/-- V-DEC-14, first STEP: empty memory is SYS 0x000 -/
theorem test_empty_memory :
    command (.step 0 0) State.reset (fun t => t.pc == 0x202 && t.faultCode == .none) = true := by decide

/-- E9 -/
theorem test_unknown_opcode :
    stepWord 0xFFFF State.reset (faulted .unknownOpcode 0x200 0xFFFF) = true := by decide

/-- V-SYS-1 -/
theorem test_halted_step :
    command (.step 0 0) { State.reset with faultCode := .unknownOpcode, faultPc := 0x200, faultWord := 0xFFFF, mem := [(0x200, 0xFF), (0x201, 0xFF)] } (faulted .unknownOpcode 0x200 0xFFFF) = true := by decide

/-- V-KEY-6, fourth STEP: the least new key wins -/
theorem test_wait_completes :
    command (.step 0x0030 0) { State.reset with pc := 0x300, awaiting := true, awaitX := 3 } (fun t => t.getV 3 == 0x04 && !t.awaiting && t.pc == 0x302 && t.keyBase == 0x0030) = true := by decide

/-- V-KEY-7: a release never completes the wait -/
theorem test_wait_release :
    command (.step 0x0000 0) { State.reset with pc := 0x300, awaiting := true, awaitX := 3, keyBase := 0x0001 } (fun t => t.awaiting && t.keyBase == 0x0000 && t.pc == 0x300) = true := by decide

/-- V-TMR-6: TICK during the key wait -/
theorem test_tick_waiting :
    command .tick { State.reset with dt := 3, awaiting := true } (fun t => t.dt == 2 && t.st == 0 && t.awaiting) = true := by decide

/-- V-TMR-7: TICK while halted -/
theorem test_tick_halted :
    command .tick { State.reset with dt := 3, faultCode := .stackOverflow } (fun t => t.dt == 3) = true := by decide

/-- V-SYS-2 -/
theorem test_reset_command :
    command .reset { withRegs [(3, 9)] with faultCode := .unknownOpcode, faultPc := 0x200, faultWord := 0xFFFF, mem := [(0x200, 0xFF), (0x201, 0xFF)], fb := State.reset.fb.set 0 1 } (fun t => t.faultCode == .none && t.faultPc == 0 && t.getV 3 == 0 && !t.pixel 0 0 && t.pc == 0x200 && t.readByte 0x200 == 0xFF) = true := by decide

/-- V-SYS-5: LOAD restores the font -/
theorem test_load :
    command (.load [0x00, 0xE0]) { State.reset with mem := [(0x050, 0x00), (0x300, 0x12)] } (fun t => t.readByte 0x050 == 0xF0 && t.readByte 0x201 == 0xE0 && t.mem == [(0x201, 0xE0)]) = true := by decide

/-- POWER_ON (R260) -/
theorem test_power_on :
    command .powerOn { withRegs [(3, 9)] with mem := [(0x050, 0x00)], pc := 0x300 } (fun t => t.readByte 0x050 == 0xF0 && t.getV 3 == 0 && t.pc == 0x200) = true := by decide

/-- R58: row 4 of digit F -/
theorem test_font_last_byte :
    (State.reset.readByte 0x09F == 0x80 && State.reset.readByte 0x0A0 == 0x00 && State.reset.readByte 0x082 == 0xF0) = true := by decide

/-! ### Witnesses: the hypotheses of the statements are met, at the boundaries of their clauses -/

theorem witness_DecodeOfEncodeIsIdentity_sys : (Instr.sys 0x0E1).wellFormed = true := by decide

theorem witness_EncodeOfDecodeIsWord_class5 : decodeWord 0x512F = .instr (.seReg 0x1 0x2) := by decide

theorem witness_EncodeOfDecodeIsWord_class4 : decodeWord 0x412F = .instr (.sneImm 0x1 0x2F) := by decide

theorem witness_SysIgnoredOrUnknownOpcode_encoding : (0x1E0 : Addr) ≠ 0x0E0 ∧ (0x1E0 : Addr) ≠ 0x0EE := by decide

theorem witness_SysIgnoredOrUnknownOpcode_ignore : State.reset.cfg.sysMode = .ignore := by decide

theorem witness_SysIgnoredOrUnknownOpcode_fault : { State.reset with cfg := { Params.default with sysMode := .fault } }.cfg.sysMode = .fault := by decide

theorem witness_CallPushesReturnAddress_room : ({ State.reset with sp := 15 }).sp.val < 16 := by decide

theorem witness_CallPushesReturnAddress_full : ({ State.reset with sp := 16 }).sp.val = 16 := by decide

theorem witness_RetPopsReturnAddress_one : 0 < ({ State.reset with sp := 1 }).sp.val := by decide

theorem witness_RetPopsReturnAddress_empty : State.reset.sp.val = 0 := by decide

theorem witness_AddToIndex_fits : ({ withRegs [(1, 0xFF)] with i := 0xF00 }).i.toNat + ((withRegs [(1, 0xFF)]).getV 1).toNat ≤ 0x0FFF := by decide

theorem witness_AddToIndex_faults : ({ withRegs [(1, 0xFF)] with i := 0xF01 }).i.toNat + ((withRegs [(1, 0xFF)]).getV 1).toNat > 0x0FFF := by decide

theorem witness_RetUndoesCall : State.reset.sp.val < 16 ∧
    ∃ t u : State, exec (.call 0x300) State.reset = .next t ∧ u.pc ≠ t.pc ∧ u.stack = t.stack ∧ u.sp = t.sp :=
  ⟨by decide, _, { State.reset with pc := 0x304, sp := 1, stack := State.reset.stack.set 0 0x202 }, rfl, by decide, rfl, rfl⟩

theorem witness_ShiftsByOne_vx (x y : Nibble) : ∃ src : Byte,
    (State.reset.cfg.shiftSrc = .vx → src = State.reset.getV x) ∧ (State.reset.cfg.shiftSrc = .vy → src = State.reset.getV y) :=
  ⟨State.reset.getV x, fun _ => rfl, fun h => absurd h (by decide)⟩

theorem witness_ShiftsByOne_vy :
    ({ withRegs [(1, 0x05), (2, 0x08)] with cfg := { Params.default with shiftSrc := .vy } } : State).cfg.shiftSrc = .vy ∧
    (0x08 : Byte) = (withRegs [(1, 0x05), (2, 0x08)]).getV 2 := by decide

/-- The last three bytes of memory hold the digits; one byte further they do not, nor below 0x200. -/
theorem witness_StoreDecimalDigits :
    MemoryCanonical { State.reset with i := 0xFFD } ∧ AccessOk { State.reset with i := 0xFFD } 3 true ∧
    MemoryCanonical { State.reset with i := 0x200 } ∧ AccessOk { State.reset with i := 0x200 } 3 true ∧
    ¬ AccessOk { State.reset with i := 0xFFE } 3 true ∧ ¬ AccessOk { State.reset with i := 0x1FF } 3 true := by
  unfold MemoryCanonical AccessOk; decide

/-- FX55 with X = F: I = 0xFF0 is the last place, and 0xFF1 or 0x1FF faults. -/
theorem witness_StoreRegistersAtIndex :
    MemoryCanonical { State.reset with i := 0xFF0 } ∧ AccessOk { State.reset with i := 0xFF0 } 16 true ∧
    loadStoreIndex { State.reset with i := 0xFF0 } 0xF ≤ 0x0FFF ∧
    ¬ AccessOk { State.reset with i := 0xFF1 } 16 true ∧ ¬ AccessOk { State.reset with i := 0x1FF } 16 true ∧
    ¬ loadStoreIndex { State.reset with i := 0xFF0, cfg := { Params.default with ldstIMode := .plusXPlus1 } } 0xF ≤ 0x0FFF := by
  unfold MemoryCanonical AccessOk; decide

/-- FX65 may read below 0x200. -/
theorem witness_LoadRegistersFromIndex :
    AccessOk { State.reset with i := 0xFF0 } 16 false ∧ loadStoreIndex { State.reset with i := 0xFF0 } 0xF ≤ 0x0FFF ∧
    AccessOk State.reset 16 false ∧ ¬ AccessOk { State.reset with i := 0xFF1 } 16 false := by
  unfold AccessOk; decide

/-- N = 0 at any I; N = 15 at the last place where its rows lie in memory. -/
theorem witness_DrawTogglesSpritePixels :
    SpriteInMemory { State.reset with i := 0xFFF } 0 ∧ SpriteInMemory { State.reset with i := 0xFF1 } 15 ∧
    ¬ SpriteInMemory { State.reset with i := 0xFF2 } 15 := by
  unfold SpriteInMemory; decide

/-- Two draws of a one-row sprite at the same place. -/
theorem witness_DrawTwiceRestores : SpriteInMemory State.reset 1 ∧
    ∃ t u, exec (.drw 1 2 1) State.reset = .next t ∧ exec (.drw 1 2 1) t = .next u ∧
      (t.getV 1).toNat % 64 = (State.reset.getV 1).toNat % 64 ∧ (t.getV 2).toNat % 32 = (State.reset.getV 2).toNat % 32 :=
  ⟨Or.inr (by decide), _, _, rfl, rfl, by decide, by decide⟩

theorem witness_WaitingStepPollsKeys :
    ({ State.reset with awaiting := true, pending := [.step 0x8001 0] } : State).pending = .step 0x8001 0 :: [] ∧
    ({ State.reset with awaiting := true, pending := [.step 0x8001 0] } : State).awaiting = true ∧
    ({ State.reset with awaiting := true, pending := [.step 0x8001 0] } : State).faultCode = .none ∧
    NewKey 0x8001 0x0001 15 ∧ (∀ j', j' < 15 → ¬ NewKey 0x8001 0x0001 j') ∧ NewKey 0x8001 0x8000 0 ∧
    (∀ j, j < 16 → ¬ NewKey 0x0001 0x0001 j) := by
  unfold NewKey; decide

/-- A state in which a listed STEP fetches the last word of memory. -/
theorem witness_StepRunsDecodedInstruction :
    Fetches { State.reset with pc := 0x0FFE, pending := [.step 0 0] } ∧
    decodeWord (wordAtPc { State.reset with pc := 0x0FFE, pending := [.step 0 0] }) = .instr (.sys 0x000) := by
  unfold Fetches; decide

theorem witness_UnlistedStepRunsDecodedInstruction :
    State.reset.pending = [] ∧ Fetches State.reset ∧ decodeWord (wordAtPc State.reset) = .instr (.sys 0x000) := by
  unfold Fetches; decide

theorem witness_HaltedStepDoesNothing :
    ({ State.reset with faultCode := .stackOverflow, pending := [.step 0 0] } : State).pending = .step 0 0 :: [] ∧
    ({ State.reset with faultCode := .stackOverflow, pending := [.step 0 0] } : State).faultCode ≠ .none := by decide

theorem witness_FetchOutOfRangeFaults :
    ({ State.reset with pc := 0x0FFF, pending := [.step 0 0] } : State).pc.toNat > 0x0FFE ∧
    State.reset.faultCode = .none ∧ State.reset.awaiting = false := by decide

theorem witness_UnknownWordFaults :
    Fetches { State.reset with mem := [(0x200, 0xFF), (0x201, 0xFF)], pending := [.step 0 0] } ∧
    decodeWord (wordAtPc { State.reset with mem := [(0x200, 0xFF), (0x201, 0xFF)], pending := [.step 0 0] }) = .unknown 0xFFFF := by
  unfold Fetches; decide

theorem witness_PowerOnCreatesState : ({ State.reset with pending := [.powerOn] } : State).pending = .powerOn :: [] := rfl

theorem witness_ResetKeepsMemory : ({ State.reset with pending := [.reset] } : State).pending = .reset :: [] := rfl

theorem witness_LoadCopiesRom (b : Byte) :
    ({ State.reset with pending := [.load (List.replicate 3584 b)] } : State).pending = .load (List.replicate 3584 b) :: [] ∧
    (List.replicate 3584 b).length ≤ 3584 :=
  ⟨rfl, Nat.le_of_eq List.length_replicate⟩

theorem witness_LoadTooLongFaults (b : Byte) :
    ({ State.reset with pending := [.load (List.replicate 3585 b)] } : State).pending = .load (List.replicate 3585 b) :: [] ∧
    3584 < (List.replicate 3585 b).length :=
  ⟨rfl, Nat.lt_of_lt_of_eq (by decide) List.length_replicate.symm⟩

theorem witness_TickCountsDown : ({ State.reset with pending := [.tick] } : State).pending = .tick :: [] ∧
    State.reset.faultCode = .none ∧ ({ State.reset with faultCode := .outOfSpace } : State).faultCode ≠ .none := by decide

/-- FX33 at I = 0x1FF is a fault of the table, and at 0x200 it is none. -/
theorem witness_FaultsAreThoseOfTheTable :
    tableFault (.ldB 0) { State.reset with i := 0x1FF } = .addressError ∧ tableFault (.ldB 0) { State.reset with i := 0x200 } = .none := by
  decide

/-- A STEP of 00EE on the empty stack raises a fault. -/
theorem witness_FaultingStepIsPrecise : ∃ t,
    step { State.reset with mem := [(0x201, 0xEE)], pending := [.step 0 0] } = .next t ∧ t.faultCode ≠ .none :=
  ⟨_, rfl, by decide⟩

theorem witness_IndexWrittenByListedOnly : ∃ t, exec (.ldI 0x300) State.reset = .next t ∧ t.i ≠ State.reset.i :=
  ⟨_, rfl, by decide⟩

theorem witness_VFKeptByOtherInstructions : mayWriteVF (.addImm 0x1 0x03) State.reset = false ∧
    ∃ t, exec (.addImm 0x1 0x03) State.reset = .next t :=
  ⟨by decide, _, rfl⟩

theorem witness_MemoryWrittenByStoresOnly : ∃ t, exec (.storeRegs 0x0) { State.reset with i := 0x300 } = .next t :=
  ⟨_, rfl⟩

theorem witness_StepKeepsTimers : ∃ t, step { State.reset with pending := [.step 0 0] } = .next t :=
  ⟨_, rfl⟩

theorem witness_StepKeepsParameters : ∃ t, step { State.reset with cfg := { Params.default with shiftSrc := .vy } } = .next t :=
  ⟨_, rfl⟩

/-- A STEP of D001 draws one row of what I = 0x000 holds. -/
theorem witness_DisplayChangedByDrawOnly : ∃ t,
    step { State.reset with mem := [(0x200, 0xD0), (0x201, 0x01)], pending := [.step 0 0] } = .next t ∧ t.displayChanged = true :=
  ⟨_, rfl, by decide⟩

theorem witness_RandomByteReadByRndOnly : (∀ x nn, Instr.cls ≠ .rnd x nn) ∧ ∃ t, exec .cls State.reset = .next t :=
  ⟨fun _ _ h => Instr.noConfusion h, _, rfl⟩

theorem witness_KeysReadByKeyInstructionsOnly :
    (∀ x, Instr.cls ≠ .skp x ∧ Instr.cls ≠ .sknp x ∧ Instr.cls ≠ .ldVxK x) ∧ ∃ t, exec .cls State.reset = .next t :=
  ⟨fun _ => ⟨fun h => Instr.noConfusion h, fun h => Instr.noConfusion h, fun h => Instr.noConfusion h⟩, _, rfl⟩

/-- A state that meets every invariant and has a next state. -/
theorem witness_invariants : MemoryCanonical { State.reset with i := 0x0FFF, mem := [(0xFFF, 0x01)] } ∧
    IndexInRange { State.reset with i := 0x0FFF } ∧ PcInRange { State.reset with pc := 0x10FE } ∧
    FaultRecordConsistent { State.reset with faultCode := .outOfSpace, faultPc := 0x200, report := .outOfSpace } ∧
    LowMemoryIntact State.reset ∧ ∃ t, step State.reset = .next t := by
  refine ⟨by unfold MemoryCanonical; decide, by unfold IndexInRange; decide, by unfold PcInRange; decide,
    by unfold FaultRecordConsistent; decide, fun _ _ _ => rfl, _, rfl⟩

end Sys2Proof.Tests
end

section
/-! The scope of the core (00_scope.md): its output ports, that every command completes, and that none changes a parameter. -/

namespace Sys2Proof.Machine

open Sys2Proof.Safety

/-! ### The frame buffer port (R9) -/

theorem pixelOf_of_lt (fb : Vector (BitVec 64) 32) (x : Nat) {y : Nat} (h : y < 32) :
    pixelOf fb x y = fb[y].getLsbD x :=
  dif_pos h

theorem fbNat_succ (fb : Vector (BitVec 64) 32) {n : Nat} (h : n < 32) :
    fbNat fb (n + 1) = 2 ^ (64 * n) * fb[n].toNat + fbNat fb n := by
  rw [fbNat, dif_pos h, Nat.add_comm, Nat.mul_comm]

/-- Each row fills its 64 bits and no more, so the next row starts above every earlier one. -/
theorem fbNat_lt (fb : Vector (BitVec 64) 32) {n : Nat} (h : n ≤ 32) : fbNat fb n < 2 ^ (64 * n) := by
  induction n with
  | zero => simp [fbNat]
  | succ n ih =>
    have hrow : fb[n].toNat + 1 ≤ 2 ^ 64 := fb[n].isLt
    calc fbNat fb (n + 1) = 2 ^ (64 * n) * fb[n].toNat + fbNat fb n := fbNat_succ fb h
      _ < 2 ^ (64 * n) * (fb[n].toNat + 1) := by have := ih (by omega); rw [Nat.mul_succ]; omega
      _ ≤ 2 ^ (64 * n) * 2 ^ 64 := Nat.mul_le_mul_left _ hrow
      _ = 2 ^ (64 * (n + 1)) := by rw [← Nat.pow_add, Nat.mul_succ]

theorem testBit_fbNat (fb : Vector (BitVec 64) 32) {n x y : Nat} (hn : n ≤ 32) (hx : x < 64) (hy : y < n) :
    (fbNat fb n).testBit (y * 64 + x) = pixelOf fb x y := by
  induction n with
  | zero => omega
  | succ n ih =>
    rw [fbNat_succ fb hn, Nat.testBit_two_pow_mul_add _ (fbNat_lt fb (by omega))]
    by_cases hyn : y < n
    · rw [if_pos (by omega), ih (by omega) hyn]
    · obtain rfl : y = n := by omega
      rw [if_neg (by omega), show y * 64 + x - 64 * y = x by omega, BitVec.testBit_toNat, pixelOf_of_lt]

theorem State.outputs_fb_pixel (s : State) {x y : Nat} (hx : x < 64) (hy : y < 32) :
    s.outputs.fb.getLsbD (y * 64 + x) = s.pixel x y := by
  have hbit : y * 64 + x < 2048 := by omega
  rw [State.outputs, BitVec.getLsbD_ofNat, decide_eq_true hbit, Bool.true_and, testBit_fbNat s.fb (Nat.le_refl 32) hx hy,
    State.pixel]

/-! ### The fault code port (10_state.md R36) -/

theorem FaultCode.toByte_eq_zero (c : FaultCode) : c.toByte = 0 ↔ c = .none := by
  cases c <;> decide

theorem FaultCode.toByte_le (c : FaultCode) : c.toByte.toNat ≤ 5 := by
  cases c <;> decide

/-- Settles O43: row y of the frame buffer is the 64 bits of `fb` from bit 64 * y on, and every other port is read off its element. -/
theorem outputPorts : Obligations.OutputPorts := fun s =>
  ⟨fun _ _ => s.outputs_fb_pixel, rfl, rfl, rfl, bne_iff_ne, rfl, s.faultCode.toByte_eq_zero, s.faultCode.toByte_le, rfl, rfl⟩

/-! ### What no instruction and no command writes: the parameters, the host's list and the draw counter -/

/-- The parts of the state that belong to the host: the parameters (R6) and the model's bookkeeping (log entries 1 to 3). -/
structure HostKept (s t : State) : Prop where
  params : Part.params.same s t
  host : Part.host.same s t

/-- An outcome of s that is a next state, with the host's parts as they were. -/
def Completes (s : State) (o : Host.Outcome State Fault Refusal) : Prop := ∃ t, o = .next t ∧ HostKept s t

theorem HostKept.refl (s : State) : HostKept s s := ⟨rfl, rfl, rfl⟩

theorem HostKept.completes {s t : State} (h : HostKept s t) : Completes s (.next t) := ⟨t, rfl, h⟩

theorem Completes.ite {s : State} {c : Prop} [Decidable c] {a b : Host.Outcome State Fault Refusal}
    (ha : Completes s a) (hb : Completes s b) : Completes s (if c then a else b) := by
  split
  · exact ha
  · exact hb

theorem State.raise_hostKept (s : State) (code : FaultCode) (w : Word) : HostKept s (s.raise code w) := ⟨rfl, rfl, rfl⟩

theorem HostKept.next {s t : State} (h : HostKept s t) : HostKept s t.next := ⟨h.params, h.host⟩

theorem HostKept.setV {s t : State} (h : HostKept s t) (x : Nibble) (b : Byte) : HostKept s (t.setV x b) :=
  ⟨h.params, h.host⟩

theorem HostKept.setI {s t : State} (h : HostKept s t) (w : Word) : HostKept s (t.setI w) := ⟨h.params, h.host⟩

theorem HostKept.writeByte {s t : State} (h : HostKept s t) (a : Nat) (b : Byte) : HostKept s (t.writeByte a b) :=
  ⟨h.params, h.host⟩

theorem HostKept.logicFlag {s t : State} (h : HostKept s t) : HostKept s t.logicFlag := by
  unfold State.logicFlag
  split
  · exact h.setV _ _
  · exact h

theorem State.waitPoll_hostKept (s : State) : HostKept s s.waitPoll := by
  simp only [State.waitPoll]
  split <;> exact ⟨rfl, rfl, rfl⟩

theorem State.tick_hostKept (s : State) : HostKept s s.tick := by
  simp only [State.tick]
  split <;> exact ⟨rfl, rfl, rfl⟩

theorem State.storeFrom_hostKept (a n : Nat) (s : State) : HostKept s (State.storeFrom a n s) := by
  obtain ⟨m, hm⟩ := State.storeFrom_eq a n s
  rw [hm]
  exact ⟨rfl, rfl, rfl⟩

theorem State.loadFrom_hostKept (a n : Nat) (s : State) : HostKept s (State.loadFrom a n s) := by
  obtain ⟨v, hv⟩ := State.loadFrom_eq a n s
  rw [hv]
  exact ⟨rfl, rfl, rfl⟩

theorem State.loadCommand_hostKept (s : State) (rom : List Byte) : HostKept s (s.loadCommand rom) := by
  unfold State.loadCommand
  split
  · obtain ⟨m, hm⟩ := State.writeBytes_eq s.powerOnCommand Config.programBase rom
    rw [hm]
    exact ⟨rfl, rfl, rfl⟩
  · exact ⟨rfl, rfl, rfl⟩

/-! ### Every instruction completes -/

theorem execSys_completes (nnn : Addr) (s : State) : Completes s (execSys nnn s) := by
  unfold execSys
  cases s.cfg.sysMode with
  | ignore => exact HostKept.completes ⟨rfl, rfl, rfl⟩
  | fault => exact (s.raise_hostKept _ _).completes

theorem execCall_completes (nnn : Addr) (s : State) : Completes s (execCall nnn s) := by
  unfold execCall
  cases hp : s.push (s.pc + 2) with
  | none => exact (s.raise_hostKept _ _).completes
  | some s' =>
    obtain ⟨_, rfl⟩ := State.push_eq_some hp
    exact HostKept.completes ⟨rfl, rfl, rfl⟩

theorem execRet_completes (s : State) : Completes s (execRet s) := by
  unfold execRet
  cases hp : s.pop with
  | none => exact (s.raise_hostKept _ _).completes
  | some popped =>
    obtain ⟨target, s'⟩ := popped
    obtain ⟨_, _, _, rfl⟩ := State.pop_eq_some hp
    exact HostKept.completes ⟨rfl, rfl, rfl⟩

/-- No instruction ends the machine: a fault of the spec is a next state (60_exceptions.md R232, log entry 11). -/
theorem exec_completes (i : Instr) (s : State) : Completes s (exec i s) := by
  cases i with
  | sys nnn => exact execSys_completes nnn s
  | call nnn => exact execCall_completes nnn s
  | ret => exact execRet_completes s
  | orReg x y | andReg x y | xorReg x y => exact ((HostKept.refl s).setV _ _).logicFlag.next.completes
  | addI x | drw x y n => exact .ite (s.raise_hostKept _ _).completes (HostKept.completes ⟨rfl, rfl, rfl⟩)
  | ldB x =>
    exact .ite (s.raise_hostKept _ _).completes
      ((((HostKept.refl s).writeByte _ _).writeByte _ _).writeByte _ _).next.completes
  | storeRegs x =>
    exact .ite (s.raise_hostKept _ _).completes ((State.storeFrom_hostKept _ _ s).setI _).next.completes
  | loadRegs x =>
    exact .ite (s.raise_hostKept _ _).completes ((State.loadFrom_hostKept _ _ s).setI _).next.completes
  | cls | jp | seImm | sneImm | seReg | sneReg | jpOffset | ldImm | addImm | ldReg | addReg | subReg | shr | subn | shl
  | ldI | ldF | rnd | skp | sknp | ldVxK | ldVxDt | ldDtVx | ldStVx => exact HostKept.completes ⟨rfl, rfl, rfl⟩

/-! ### Every command completes -/

theorem fetchExecute_completes (s : State) : Completes s (fetchExecute s) := by
  by_cases hp : s.pc.toNat ≤ 0x0FFE
  · cases hd : decodeWord (wordAtPc s) with
    | unknown w =>
      rw [fetchExecute_of_unknown hp hd]
      exact (s.raise_hostKept _ _).completes
    | instr i =>
      rw [fetchExecute_of_instr hp hd]
      exact exec_completes i s
  · rw [fetchExecute_of_pc_high (Nat.lt_of_not_le hp)]
    exact (s.raise_hostKept _ _).completes

theorem stepCommand_completes (s : State) : Completes s (stepCommand s) := by
  by_cases hf : s.faultCode = .none
  · cases hw : s.awaiting with
    | true =>
      obtain ⟨hparams, hhost⟩ := s.begin.waitPoll_hostKept
      rw [stepCommand_of_waiting hf hw]
      exact HostKept.completes ⟨hparams, hhost⟩
    | false =>
      obtain ⟨t, ht, hparams, hhost⟩ := fetchExecute_completes s.begin
      rw [stepCommand_of_fetching hf hw, ht]
      exact HostKept.completes ⟨hparams, hhost⟩
  · rw [stepCommand_of_halted hf]
    exact HostKept.completes ⟨rfl, rfl, rfl⟩

theorem performCommand_completes (c : HostCommand) (s : State) : Completes s (performCommand c s) := by
  cases c with
  | powerOn | reset => exact HostKept.completes ⟨rfl, rfl, rfl⟩
  | tick => exact s.tick_hostKept.completes
  | load rom => exact (s.loadCommand_hostKept rom).completes
  | step keys rand =>
    obtain ⟨t, ht, hparams, hhost⟩ := stepCommand_completes (s.sample keys rand)
    exact ⟨t, ht, hparams, hhost⟩

/-- Everything a step does to the host's parts, by whether the host has listed a command (log entries 1 to 3). -/
theorem step_completes (s : State) :
    ∃ t, step s = .next t ∧ t.cfg = s.cfg ∧ t.pending = s.pending.tail ∧
      t.draws = if s.pending = [] then s.draws + 1 else s.draws := by
  cases hp : s.pending with
  | nil =>
    obtain ⟨t, ht, hparams, hpending, hdraws⟩ := stepCommand_completes s.sampleFree
    exact ⟨t, (step_of_pending_nil hp).trans ht, hparams, hpending.trans hp, hdraws⟩
  | cons c rest =>
    obtain ⟨t, ht, hparams, hpending, hdraws⟩ := performCommand_completes c (s.takePending rest)
    exact ⟨t, (step_of_pending_cons hp).trans ht, hparams, hpending, hdraws⟩

/-- Settles O44: neither a command nor an instruction ends the machine or reaches the host's list. -/
theorem everyCommandCompletes : Obligations.EveryCommandCompletes := fun s =>
  let ⟨t, ht, _, hpending, hdraws⟩ := step_completes s
  ⟨t, ht, hpending, hdraws⟩

/-- Settles O54: the one next state of a step has the parameters of the state it came from. -/
theorem stepKeepsParameters : Obligations.StepKeepsParameters := by
  intro s t ht
  obtain ⟨t', ht', hparams, -⟩ := step_completes s
  obtain rfl : t = t' := Host.Outcome.next.inj (ht.symm.trans ht')
  exact hparams

end Sys2Proof.Machine
end

section
/-! The state of the core (10_state.md): its POWER_ON values, what an instruction does to I, VF, PC, the stack and the fault
record, and the invariants that follow. -/

namespace Sys2Proof.Machine

open Sys2Proof.Safety

/-! ### The power-on values (R40, R58) -/

/-- Each glyph fills its five bytes of the font table (R58). -/
theorem powerOnByte_glyph (fontBase : Fin 433) {d r : Nat} (hd : d < 16) (hr : r < 5) :
    powerOnByte fontBase (fontBase.val + 5 * d + r) = fontByte d r := by
  have hin : fontBase.val ≤ fontBase.val + 5 * d + r ∧ fontBase.val + 5 * d + r < fontBase.val + Config.fontSize := by
    simp only [Config.fontSize]
    omega
  have hoff : fontBase.val + 5 * d + r - fontBase.val = 5 * d + r := by omega
  rw [powerOnByte, if_pos hin, hoff, show (5 * d + r) / 5 = d by omega, show (5 * d + r) % 5 = r by omega]

theorem powerOnByte_outside_font (fontBase : Fin 433) {a : Nat} (h : a < fontBase.val ∨ fontBase.val + 80 ≤ a) :
    powerOnByte fontBase a = 0 := by
  refine if_neg ?_
  simp only [Config.fontSize]
  omega

theorem pixelOf_replicate_zero (x y : Nat) : pixelOf (Vector.replicate 32 0) x y = false := by
  unfold pixelOf
  split
  · rw [Vector.getElem_replicate]
    exact BitVec.getLsbD_zero
  · rfl

theorem State.resetCommand_fresh (s : State) : FreshCore s.resetCommand :=
  ⟨fun _ => Vector.getElem_replicate _, rfl, rfl, rfl, fun _ => Vector.getElem_replicate _, rfl, rfl,
    pixelOf_replicate_zero, rfl, rfl, rfl, rfl, rfl, rfl, rfl⟩

/-- POWER_ON differs from RESET in memory alone, which FreshCore does not read. -/
theorem State.powerOnCommand_fresh (s : State) : FreshCore s.powerOnCommand := s.resetCommand_fresh

/-- A RESET leaves the reset state as it is (log entry 15). -/
theorem reset_fresh : FreshCore State.reset := State.reset.resetCommand_fresh

/-- A LOAD that fits leaves a fresh core, and one that does not is a fault (70_reset_and_hazards.md R262, R263). -/
theorem State.loadCommand_cases (s : State) (rom : List Byte) :
    (FreshCore (s.loadCommand rom) ∧ (s.loadCommand rom).report = .none) ∨
    s.loadCommand rom = s.begin.raise .outOfSpace 0x0000 := by
  unfold State.loadCommand
  split
  · obtain ⟨m, hm⟩ := State.writeBytes_eq s.powerOnCommand Config.programBase rom
    rw [hm]
    exact .inl ⟨s.powerOnCommand_fresh, rfl⟩
  · exact .inr rfl

/-- Settles O42: the reset state is what RESET leaves, and its empty memory reads as the power-on bytes. -/
theorem resetStateIsPowerOn : Obligations.ResetStateIsPowerOn :=
  ⟨reset_fresh, rfl, fun _ _ => powerOnByte_glyph 0x050, fun _ => powerOnByte_outside_font 0x050⟩

/-! ### What an instruction can do to I, PC and the stack -/

/-- The values instruction i can leave in I (R23, R24). -/
inductive IndexMoves : Instr → State → Word → Prop where
  | keep {i s} : IndexMoves i s s.i
  | ldI {nnn s} : IndexMoves (.ldI nnn) s (nnn.setWidth 16)
  | addI {x s} (h : s.i.toNat + (s.getV x).toNat ≤ 0x0FFF) :
      IndexMoves (.addI x) s (BitVec.ofNat 16 (s.i.toNat + (s.getV x).toNat))
  | ldF {x s} : IndexMoves (.ldF x) s (s.glyphAddress x)
  | storeRegs {x s} (h : s.advancedI x ≤ 0x0FFF) : IndexMoves (.storeRegs x) s (BitVec.ofNat 16 (s.advancedI x))
  | loadRegs {x s} (h : s.advancedI x ≤ 0x0FFF) : IndexMoves (.loadRegs x) s (BitVec.ofNat 16 (s.advancedI x))

/-- The values an instruction can leave in PC (41_flow_control.md R110-R121, 47_keypad.md R207). -/
inductive PcMoves (s : State) : Word → Prop where
  | keep : PcMoves s s.pc
  | next : PcMoves s (s.pc + 2)
  | skip (c : Bool) : PcMoves s (s.pc + bif c then 4 else 2)
  | jump (nnn : Addr) : PcMoves s (nnn.setWidth 16)
  | jumpOffset (nnn : Addr) (b : Byte) : PcMoves s (nnn.setWidth 16 + b.setWidth 16)
  | ret (k : Nat) (hk : k < 16) : PcMoves s s.stack[k]

/-- The call stacks an instruction can leave: only CALL writes one, in one slot (R28, 41_flow_control.md R112). -/
inductive StackMoves (s : State) : Vector Word 16 → Prop where
  | keep : StackMoves s s.stack
  | call (k : Nat) (hk : k < 16) : StackMoves s (s.stack.set k (s.pc + 2))

/-- What instruction i does from s to t when it raises no fault. A field that a proof does not give is the usual one: PC moves
to the next instruction and the rest is kept. -/
structure Executed (i : Instr) (s t : State) : Prop where
  index : IndexMoves i s t.i := by exact .keep
  pc : PcMoves s t.pc := by exact .next
  stack : StackMoves s t.stack := by exact .keep
  keyWait : t.awaiting = s.awaiting ∨ t.pc = s.pc := by exact .inl rfl
  faultRecord : Part.faultRecord.same s t := by exact ⟨rfl, rfl, rfl⟩
  report : Part.report.same s t := by rfl
  vf : mayWriteVF i s = false → t.getV 0xF = s.getV 0xF := by exact fun _ => rfl

/-- Instruction i raises a fault in s, or does what Executed says. -/
def RaisesOrExecutes (i : Instr) (s t : State) : Prop :=
  (∃ code w, code ≠ .none ∧ t = s.raise code w) ∨ Executed i s t

/-! ### The instructions one by one -/

section

variable {i : Instr} {s t u : State} {w : Word}

theorem raisesOrExecutes_of_raise {code : FaultCode}
    (h : (.next (s.raise code w) : Host.Outcome State Fault Refusal) = .next t) (hcode : code ≠ .none) :
    RaisesOrExecutes i s t :=
  .inl ⟨code, w, hcode, (Host.Outcome.next.inj h).symm⟩

theorem raisesOrExecutes_of_executed (h : (.next u : Host.Outcome State Fault Refusal) = .next t) (hu : Executed i s u) :
    RaisesOrExecutes i s t :=
  .inr (Host.Outcome.next.inj h ▸ hu)

/-- A checked instruction raises ADDRESS_ERROR when its check fails, and has its effect when it passes. -/
theorem raisesOrExecutes_of_check {c : Prop} [Decidable c]
    (h : (if c then .next (s.raise .addressError w) else .next u : Host.Outcome State Fault Refusal) = .next t)
    (hu : ¬ c → Executed i s u) : RaisesOrExecutes i s t := by
  split at h
  · exact raisesOrExecutes_of_raise h (by decide)
  · exact raisesOrExecutes_of_executed h (hu ‹_›)

end

theorem State.setV_getV_VF (s : State) {x : Nibble} (b : Byte) (hx : (x == 0xF) = false) :
    (s.setV x b).getV 0xF = s.getV 0xF := by
  rw [State.getV_setV, if_neg (Ne.symm (beq_eq_false_iff_ne.1 hx))]

/-- An instruction that writes V[x] alone. -/
theorem executed_setV {i : Instr} {s : State} {x : Nibble} (b : Byte) (hi : mayWriteVF i s = (x == 0xF)) :
    Executed i s (s.setV x b).next :=
  { vf := fun hw => s.setV_getV_VF b (hi ▸ hw) }

/-- OR, AND and XOR: VF is kept under PRESERVE when it is not the destination (42_alu.md R131). -/
theorem executed_logic {i : Instr} {s : State} {x : Nibble} (b : Byte)
    (hi : mayWriteVF i s = (s.cfg.logicVfMode == .clear || x == 0xF)) : Executed i s (s.setV x b).logicFlag.next := by
  cases hmode : s.cfg.logicVfMode with
  | clear =>
    have hflag : (s.setV x b).logicFlag = s.setVFlag x b 0 := by simp only [State.logicFlag, State.setV_cfg, hmode]; rfl
    have hwrites : mayWriteVF i s = true := by rw [hi, hmode]; rfl
    rw [hflag]
    exact { vf := fun hw => absurd (hwrites.symm.trans hw) (by decide) }
  | preserve =>
    have hflag : (s.setV x b).logicFlag = s.setV x b := by simp only [State.logicFlag, State.setV_cfg, hmode]
    rw [hflag]
    exact executed_setV b (by rw [hi, hmode]; rfl)

theorem execSys_raisesOrExecutes {nnn : Addr} {s t : State} (h : exec (.sys nnn) s = .next t) :
    RaisesOrExecutes (.sys nnn) s t := by
  simp only [exec, execSys] at h
  split at h
  · exact raisesOrExecutes_of_executed h { }
  · exact raisesOrExecutes_of_raise h (by decide)

theorem execCall_raisesOrExecutes {nnn : Addr} {s t : State} (h : exec (.call nnn) s = .next t) :
    RaisesOrExecutes (.call nnn) s t := by
  simp only [exec, execCall] at h
  split at h
  next s' hp =>
    obtain ⟨hsp, rfl⟩ := State.push_eq_some hp
    exact raisesOrExecutes_of_executed h { pc := .jump nnn, stack := .call s.sp.val hsp }
  next => exact raisesOrExecutes_of_raise h (by decide)

theorem execRet_raisesOrExecutes {s t : State} (h : exec .ret s = .next t) : RaisesOrExecutes .ret s t := by
  simp only [exec, execRet] at h
  split at h
  next target s' hp =>
    obtain ⟨hk, -, rfl, rfl⟩ := State.pop_eq_some hp
    exact raisesOrExecutes_of_executed h { pc := .ret _ hk }
  next => exact raisesOrExecutes_of_raise h (by decide)

theorem execLdB_raisesOrExecutes {x : Nibble} {s t : State} (h : exec (.ldB x) s = .next t) :
    RaisesOrExecutes (.ldB x) s t := by
  refine raisesOrExecutes_of_check h fun _ => ?_
  simp only [State.writeByte]
  exact { }

/-- The second half of the check of FX55 and FX65: the I they leave is in range (44_memory_index.md R164). -/
theorem le_of_blockCheck {faults : Bool} {newI : Nat} (h : ¬ (faults || decide (newI > 0x0FFF)) = true) :
    newI ≤ 0x0FFF :=
  Nat.le_of_not_lt fun hgt => h (by rw [decide_eq_true hgt, Bool.or_true])

theorem execStoreRegs_raisesOrExecutes {x : Nibble} {s t : State} (h : exec (.storeRegs x) s = .next t) :
    RaisesOrExecutes (.storeRegs x) s t := by
  refine raisesOrExecutes_of_check h fun hc => ?_
  obtain ⟨m, hm⟩ := State.storeFrom_eq s.i.toNat (x.toNat + 1) s
  rw [hm]
  exact { index := .storeRegs (le_of_blockCheck hc) }

theorem execLoadRegs_raisesOrExecutes {x : Nibble} {s t : State} (h : exec (.loadRegs x) s = .next t) :
    RaisesOrExecutes (.loadRegs x) s t := by
  refine raisesOrExecutes_of_check h fun hc => ?_
  have hvf : mayWriteVF (.loadRegs x) s = false →
      (State.loadFrom s.i.toNat (x.toNat + 1) s).getV 0xF = s.getV 0xF := fun hw => by
    have hx : x ≠ 0xF := beq_eq_false_iff_ne.1 hw
    rw [State.loadFrom_getV _ (by omega), if_neg (by bv_omega)]
  obtain ⟨v, hv⟩ := State.loadFrom_eq s.i.toNat (x.toNat + 1) s
  rw [hv] at hvf ⊢
  exact { index := .loadRegs (le_of_blockCheck hc), vf := hvf }

/-- Everything an instruction can do to I, PC, the stack, the key wait, the fault record and VF. -/
theorem exec_raisesOrExecutes {i : Instr} {s t : State} (h : exec i s = .next t) : RaisesOrExecutes i s t := by
  cases i with
  | sys nnn => exact execSys_raisesOrExecutes h
  | call nnn => exact execCall_raisesOrExecutes h
  | ret => exact execRet_raisesOrExecutes h
  | ldB x => exact execLdB_raisesOrExecutes h
  | storeRegs x => exact execStoreRegs_raisesOrExecutes h
  | loadRegs x => exact execLoadRegs_raisesOrExecutes h
  | addI x => exact raisesOrExecutes_of_check h fun hc => { index := .addI (Nat.le_of_not_lt hc) }
  | drw x y n => exact raisesOrExecutes_of_check h fun _ => { vf := nofun }
  | addReg | subReg | shr | subn | shl => exact raisesOrExecutes_of_executed h { vf := nofun }
  | orReg | andReg | xorReg => exact raisesOrExecutes_of_executed h (executed_logic _ rfl)
  | ldImm | addImm | ldReg | rnd | ldVxDt => exact raisesOrExecutes_of_executed h (executed_setV _ rfl)
  | jp nnn => exact raisesOrExecutes_of_executed h { pc := .jump nnn }
  | jpOffset nnn => exact raisesOrExecutes_of_executed h { pc := .jumpOffset nnn _ }
  | seImm | sneImm | seReg | sneReg | skp | sknp => exact raisesOrExecutes_of_executed h { pc := .skip _ }
  | ldI nnn => exact raisesOrExecutes_of_executed h { index := .ldI }
  | ldF x => exact raisesOrExecutes_of_executed h { index := .ldF }
  | ldVxK x => exact raisesOrExecutes_of_executed h { pc := .keep, keyWait := .inr rfl }
  | cls | ldDtVx | ldStVx => exact raisesOrExecutes_of_executed h { }

/-- Settles O48: a fault keeps every register, and an execution that may not write VF keeps it. -/
theorem vfKeptByOtherInstructions : Obligations.VFKeptByOtherInstructions := by
  intro i s t h hw
  obtain ⟨code, w, -, rfl⟩ | hex := exec_raisesOrExecutes h
  · rfl
  · exact hex.vf hw

theorem State.advancedI_of_unchanged {s : State} (h : s.cfg.ldstIMode = .unchanged) (x : Nibble) :
    s.advancedI x = s.i.toNat := by
  simp only [State.advancedI, h]

/-- Settles O47: a fault keeps I, and the moves of I are those of the listed instructions. -/
theorem indexWrittenByListedOnly : Obligations.IndexWrittenByListedOnly := by
  intro i s t h hne
  obtain ⟨code, w, -, rfl⟩ | hex := exec_raisesOrExecutes h
  · exact absurd rfl hne
  · have hmode {x : Nibble} (ht : t.i = BitVec.ofNat 16 (s.advancedI x)) : s.cfg.ldstIMode ≠ .unchanged := fun hu =>
      hne (by rw [ht, State.advancedI_of_unchanged hu, BitVec.ofNat_toNat, BitVec.setWidth_eq])
    have hmove := hex.index
    generalize hi : t.i = w at hmove
    cases hmove with
    | keep => exact absurd hi hne
    | ldI => exact .inl ⟨_, rfl⟩
    | addI => exact .inr (.inl ⟨_, rfl⟩)
    | ldF => exact .inr (.inr (.inl ⟨_, rfl⟩))
    | storeRegs => exact .inr (.inr (.inr ⟨hmode hi, .inl ⟨_, rfl⟩⟩))
    | loadRegs => exact .inr (.inr (.inr ⟨hmode hi, .inr ⟨_, rfl⟩⟩))

/-! ### Invariants of the core without its memory -/

theorem State.tick_eq (s : State) : ∃ dt st, s.tick = { s.begin with dt := dt, st := st } := by
  simp only [State.tick]
  split
  · exact ⟨s.dt, s.st, rfl⟩
  · exact ⟨_, _, rfl⟩

/-- A poll moves the baseline, and a new key is stored and ends the wait (40_cycle.md R94). -/
theorem State.waitPoll_cases (s : State) :
    s.waitPoll = s.setKeyBase s.keys ∨
    ∃ b, s.waitPoll = ((s.setV s.awaitX b).endKeyWait.next).setKeyBase s.keys := by
  simp only [State.waitPoll]
  split
  · exact .inr ⟨_, rfl⟩
  · exact .inl rfl

/-- An invariant that reads neither memory nor the ports nor the host's list: it holds of every fresh core, and the start of a
command, the timers, a fault, a poll and an execution keep it. -/
theorem step_keeps_of_executed {P : State → Prop} (hcore : ∀ s : State, P s.core ↔ P s)
    (hfresh : ∀ t, FreshCore t → t.report = .none → P t)
    (htimers : ∀ s dt st, P s → P { s.begin with dt := dt, st := st })
    (hraise : ∀ s code w, P s → code ≠ .none → P (s.begin.raise code w))
    (hpoll : ∀ s : State, P s → s.faultCode = .none → s.awaiting = true → P s.begin.waitPoll)
    (hexec : ∀ i s t, P s → Fetches s → Executed i s.begin t → P t)
    {s t : State} (h : P s) (e : step s = .next t) : P t := by
  refine step_keeps_of_commands (fun s s' hs h => (hcore s').1 (hs ▸ (hcore s).2 h)) ?_ ?_ ?_ ?_ ?_ h e
  · intro s t h e
    obtain ⟨-, rfl⟩ | ⟨hf, hw, rfl⟩ | ⟨-, -, -, rfl⟩ | ⟨-, w, -, rfl⟩ | ⟨hF, i, -, hi⟩ := stepCommand_cases e
    · exact htimers s s.dt s.st h
    · exact hpoll s h hf hw
    · exact hraise s _ _ h (by decide)
    · exact hraise s _ _ h (by decide)
    · obtain ⟨code, w, hcode, rfl⟩ | hex := exec_raisesOrExecutes hi
      · exact hraise s code w h hcode
      · exact hexec i s t h hF hex
  · intro s h
    obtain ⟨dt, st, htick⟩ := s.tick_eq
    exact htick ▸ htimers s dt st h
  · exact fun s _ => hfresh _ s.resetCommand_fresh rfl
  · exact fun s _ => hfresh _ s.powerOnCommand_fresh rfl
  · intro s rom h
    obtain ⟨hf, hr⟩ | hload := s.loadCommand_cases rom
    · exact hfresh _ hf hr
    · exact hload ▸ hraise s _ _ h (by decide)

/-! ### I stays in range (R24) -/

theorem indexInRange_of_fresh {t : State} (h : FreshCore t) : IndexInRange t := by
  obtain ⟨-, hi, -⟩ := h
  simp [IndexInRange, hi]

theorem State.glyphAddress_le (s : State) (x : Nibble) : (s.glyphAddress x).toNat ≤ 0x0FFF := by
  have hfont := s.cfg.fontBase.isLt
  have hdigit := (lowNibble (s.getV x)).isLt
  rw [State.glyphAddress, BitVec.toNat_ofNat]
  exact Nat.le_trans (Nat.mod_le _ _) (by omega)

theorem IndexMoves.le {i : Instr} {s : State} {w : Word} (h : IndexMoves i s w) (hs : IndexInRange s) :
    w.toNat ≤ 0x0FFF := by
  cases h with
  | keep => exact hs
  | @ldI nnn =>
    have := nnn.isLt
    rw [BitVec.toNat_setWidth]
    omega
  | addI h | storeRegs h | loadRegs h =>
    rw [BitVec.toNat_ofNat]
    exact Nat.le_trans (Nat.mod_le _ _) h
  | ldF => exact s.glyphAddress_le _

theorem indexInRange_waitPoll {s : State} (h : IndexInRange s) : IndexInRange s.waitPoll := by
  obtain hp | ⟨b, hp⟩ := s.waitPoll_cases <;> exact hp ▸ h

/-- Settles O56: no command but an executed instruction or a reset moves I, and each move of I is in range. -/
theorem stepKeepsIndexInRange : Obligations.StepKeepsIndexInRange := fun _ _ h e =>
  step_keeps_of_executed (fun _ => Iff.rfl) (fun _ hf _ => indexInRange_of_fresh hf) (fun _ _ _ h => h)
    (fun _ _ _ h _ => h) (fun s h _ _ => indexInRange_waitPoll (s := s.begin) h)
    (fun _ _ _ h _ hex => hex.index.le h) h e

/-! ### PC stays in range (R26, 41_flow_control.md R118) -/

theorem pcInRange_of_fresh {t : State} (h : FreshCore t) : PcInRange t := by
  obtain ⟨-, -, hpc, -, hstack, -, -, -, hwait, -⟩ := h
  simp [PcInRange, hpc, hstack, hwait]

theorem PcMoves.le {s : State} {w : Word} (h : PcMoves s w) (hs : s.pc.toNat ≤ 0x0FFE)
    (hstack : ∀ j : Fin 16, s.stack[j].toNat ≤ 0x1000) : w.toNat ≤ 0x10FE := by
  cases h with
  | keep => omega
  | next => bv_omega
  | skip c => cases c <;> simp only [cond_true, cond_false] <;> bv_omega
  | jump nnn => bv_omega
  | jumpOffset nnn b => bv_omega
  | ret k hk => exact Nat.le_trans (hstack ⟨k, hk⟩) (by decide)

theorem StackMoves.le {s : State} {v : Vector Word 16} (h : StackMoves s v) (hs : s.pc.toNat ≤ 0x0FFE)
    (hstack : ∀ j : Fin 16, s.stack[j].toNat ≤ 0x1000) (j : Fin 16) : v[j].toNat ≤ 0x1000 := by
  cases h with
  | keep => exact hstack j
  | call k hk =>
    rw [Fin.getElem_fin, Vector.getElem_set]
    split
    · bv_omega
    · exact hstack j

/-- A new key is answered at the FX0A, which was fetched, so PC + 2 is in range too. -/
theorem pcInRange_waitPoll {s : State} (h : PcInRange s) (hw : s.awaiting = true) : PcInRange s.waitPoll := by
  obtain ⟨hpc, hstack, hwait⟩ := h
  have hfetched := hwait hw
  obtain hp | ⟨b, hp⟩ := s.waitPoll_cases
  · exact hp ▸ ⟨hpc, hstack, hwait⟩
  · have hnext : (s.pc + 2).toNat ≤ 0x10FE := by bv_omega
    exact hp ▸ ⟨hnext, hstack, nofun⟩

/-- An executed instruction was fetched at or below 0x0FFE, so its targets and its return address are in range. -/
theorem Executed.pcInRange {i : Instr} {s t : State} (hex : Executed i s t) (h : PcInRange s) (hF : Fetches s) :
    PcInRange t := by
  obtain ⟨-, hrunning, hfetched⟩ := hF
  obtain ⟨-, hstack, -⟩ := h
  refine ⟨hex.pc.le hfetched hstack, hex.stack.le hfetched hstack, fun hw => ?_⟩
  obtain hkeep | hpc := hex.keyWait
  · exact absurd (hw.symm.trans (hkeep.trans hrunning)) (by decide)
  · exact hpc ▸ hfetched

/-- Settles O57: the bounds on the stack and on a waiting PC make the bound on PC inductive. -/
theorem stepKeepsPcInRange : Obligations.StepKeepsPcInRange := fun _ _ h e =>
  step_keeps_of_executed (fun _ => Iff.rfl) (fun _ hf _ => pcInRange_of_fresh hf) (fun _ _ _ h => h) (fun _ _ _ h _ => h)
    (fun s h _ hw => pcInRange_waitPoll (s := s.begin) h hw)
    (fun _ s _ h hF hex => hex.pcInRange (s := s.begin) h hF) h e

/-! ### The fault record stays consistent (R37) -/

theorem faultRecordConsistent_of_fresh {t : State} (h : FreshCore t) (hr : t.report = .none) :
    FaultRecordConsistent t := by
  obtain ⟨-, -, -, -, -, -, -, -, -, -, -, -, hcode, hpc, hword⟩ := h
  exact ⟨fun _ => ⟨hpc, hword⟩, fun hne => absurd hcode hne, .inl hr⟩

/-- The start of a command clears display_changed and the report, so what is left to the record is R37. -/
theorem faultRecordConsistent_begin {s : State} (h : FaultRecordConsistent s) : FaultRecordConsistent s.begin := by
  obtain ⟨hclear, hfault, -⟩ := h
  exact ⟨hclear, fun hne => ⟨(hfault hne).1, rfl⟩, .inl rfl⟩

theorem faultRecordConsistent_raise (s : State) {code : FaultCode} (w : Word) (hcode : code ≠ .none)
    (hdisplay : s.displayChanged = false) : FaultRecordConsistent (s.raise code w) :=
  ⟨fun h => absurd h hcode, fun _ => ⟨rfl, hdisplay⟩, .inr rfl⟩

/-- While there is no fault, what keeps the record and the report keeps them consistent, whatever it does to PC. -/
theorem faultRecordConsistent_of_same {s t : State} (h : FaultRecordConsistent s) (hnone : s.faultCode = .none)
    (hrecord : Part.faultRecord.same s t) (hreport : Part.report.same s t) : FaultRecordConsistent t := by
  obtain ⟨hcode, hpc, hword⟩ := hrecord
  obtain ⟨hclear, -, hrep⟩ := h
  have hnone' : t.faultCode = .none := hcode.trans hnone
  refine ⟨fun _ => ?_, fun hne => absurd hnone' hne, ?_⟩
  · exact hpc ▸ hword ▸ hclear hnone
  · exact hreport ▸ hcode ▸ hrep

theorem faultRecordConsistent_waitPoll {s : State} (h : FaultRecordConsistent s) (hnone : s.faultCode = .none) :
    FaultRecordConsistent s.waitPoll := by
  obtain hp | ⟨b, hp⟩ := s.waitPoll_cases <;> exact hp ▸ faultRecordConsistent_of_same h hnone ⟨rfl, rfl, rfl⟩ rfl

/-- Settles O58: a raised fault writes the record as the invariant asks, and a step that raises none keeps it. -/
theorem stepKeepsFaultRecordConsistent : Obligations.StepKeepsFaultRecordConsistent := fun _ _ h e =>
  step_keeps_of_executed (fun _ => Iff.rfl) (fun _ => faultRecordConsistent_of_fresh)
    (fun s _ _ h => faultRecordConsistent_begin (s := s) h)
    (fun s _ w _ hcode => faultRecordConsistent_raise s.begin w hcode rfl)
    (fun _ h hnone _ => faultRecordConsistent_waitPoll (faultRecordConsistent_begin h) hnone)
    (fun _ _ _ h hF hex => faultRecordConsistent_of_same (faultRecordConsistent_begin h) hF.1 hex.faultRecord hex.report)
    h e

/-! ### The reset state meets every invariant -/

/-- Settles O60: the reset state is a fresh core that reports OK, and its memory lists nothing. -/
theorem resetMeetsInvariants : Obligations.ResetMeetsInvariants :=
  ⟨Memory.wf_nil, indexInRange_of_fresh reset_fresh, pcInRange_of_fresh reset_fresh,
    faultRecordConsistent_of_fresh reset_fresh rfl, fun _ _ _ => rfl⟩

end Sys2Proof.Machine
end

section
/-! Memory (20_memory.md): what an instruction does to it, and the invariants that every permitted write keeps. -/

namespace Sys2Proof.Machine

open Sys2Proof.Safety

/-! ### What an instruction can do to memory (R51) -/

/-- The memories instruction i can leave: the two stores write only after their check has passed (44_memory_index.md R163,
R164), and everything else, a fault included, keeps memory. -/
inductive MemoryMoves : Instr → State → Memory → Prop where
  | keep {i s} : MemoryMoves i s s.mem
  | ldB {x s} (hcheck : AccessOk s 3 true) :
      MemoryMoves (.ldB x) s (((s.writeByte s.i.toNat (bcdDigit (s.getV x) 0)).writeByte (s.i.toNat + 1)
        (bcdDigit (s.getV x) 1)).writeByte (s.i.toNat + 2) (bcdDigit (s.getV x) 2)).mem
  | storeRegs {x s} (hcheck : AccessOk s (x.toNat + 1) true) :
      MemoryMoves (.storeRegs x) s (State.storeFrom s.i.toNat (x.toNat + 1) s).mem

section

variable {i : Instr} {s t u : State} {w : Word}

theorem memoryMoves_of_mem (h : (.next u : Host.Outcome State Fault Refusal) = .next t) (hu : MemoryMoves i s u.mem) :
    MemoryMoves i s t.mem :=
  Host.Outcome.next.inj h ▸ hu

/-- A checked instruction that fails its check raises a fault, which keeps memory. -/
theorem memoryMoves_of_check {c : Prop} [Decidable c]
    (h : (if c then .next (s.raise .addressError w) else .next u : Host.Outcome State Fault Refusal) = .next t)
    (hu : ¬ c → MemoryMoves i s u.mem) : MemoryMoves i s t.mem := by
  split at h
  · exact memoryMoves_of_mem h .keep
  · exact memoryMoves_of_mem h (hu ‹_›)

end

theorem State.logicFlag_mem (s : State) : s.logicFlag.mem = s.mem := by
  unfold State.logicFlag
  split <;> rfl

theorem State.loadFrom_mem (a n : Nat) (s : State) : (State.loadFrom a n s).mem = s.mem := by
  obtain ⟨v, hv⟩ := State.loadFrom_eq a n s
  rw [hv]

theorem execSys_memoryMoves {nnn : Addr} {s t : State} (h : exec (.sys nnn) s = .next t) :
    MemoryMoves (.sys nnn) s t.mem := by
  simp only [exec, execSys] at h
  split at h <;> exact memoryMoves_of_mem h .keep

theorem execCall_memoryMoves {nnn : Addr} {s t : State} (h : exec (.call nnn) s = .next t) :
    MemoryMoves (.call nnn) s t.mem := by
  simp only [exec, execCall] at h
  split at h
  next s' hp =>
    obtain ⟨_, rfl⟩ := State.push_eq_some hp
    exact memoryMoves_of_mem h .keep
  next => exact memoryMoves_of_mem h .keep

theorem execRet_memoryMoves {s t : State} (h : exec .ret s = .next t) : MemoryMoves .ret s t.mem := by
  simp only [exec, execRet] at h
  split at h
  next target s' hp =>
    obtain ⟨_, _, _, rfl⟩ := State.pop_eq_some hp
    exact memoryMoves_of_mem h .keep
  next => exact memoryMoves_of_mem h .keep

theorem accessOk_of_check {s : State} {n : Nat} {isWrite : Bool} (h : ¬ s.accessFaults s.i n isWrite = true) :
    AccessOk s n isWrite :=
  State.accessFaults_eq_false.1 (eq_false_of_ne_true h)

/-- Everything an instruction can do to memory. -/
theorem exec_memoryMoves {i : Instr} {s t : State} (h : exec i s = .next t) : MemoryMoves i s t.mem := by
  cases i with
  | sys nnn => exact execSys_memoryMoves h
  | call nnn => exact execCall_memoryMoves h
  | ret => exact execRet_memoryMoves h
  | ldB x => exact memoryMoves_of_check h fun hc => .ldB (accessOk_of_check hc)
  | storeRegs x =>
    exact memoryMoves_of_check h fun hc => .storeRegs (accessOk_of_check fun hf => hc (Bool.or_eq_true_iff.2 (.inl hf)))
  | loadRegs x =>
    refine memoryMoves_of_check h fun _ => ?_
    rw [State.next_mem, State.setI_mem, State.loadFrom_mem]
    exact .keep
  | addI | drw => exact memoryMoves_of_check h fun _ => .keep
  | orReg | andReg | xorReg =>
    refine memoryMoves_of_mem h ?_
    rw [State.next_mem, State.logicFlag_mem]
    exact .keep
  | cls | jp | seImm | sneImm | seReg | sneReg | jpOffset | ldImm | addImm | ldReg | addReg | subReg | shr | subn | shl
  | ldI | ldF | rnd | skp | sknp | ldVxK | ldVxDt | ldDtVx | ldStVx => exact memoryMoves_of_mem h .keep

/-- Settles O49: the moves of memory other than keeping it are those of the two stores. -/
theorem memoryWrittenByStoresOnly : Obligations.MemoryWrittenByStoresOnly := by
  intro i s t h
  have hmove := exec_memoryMoves h
  generalize t.mem = m at hmove
  cases hmove with
  | keep => exact .inl rfl
  | ldB => exact .inr (.inl ⟨_, rfl⟩)
  | storeRegs => exact .inr (.inr ⟨_, rfl⟩)

/-! ### Invariants of memory -/

/-- The addresses a command may write: below 4096 (R50), and not below 0x200 under RESERVED_WRITE = FAULT (R57). -/
def Writable (s : State) (a : Nat) : Prop :=
  a < Config.memSize ∧ (s.cfg.reservedWrite = .fault → 0x200 ≤ a)

/-- An invariant that reads memory and the parameters alone, holds after POWER_ON and is kept by each write that is allowed. -/
structure MemoryInvariant (P : State → Prop) : Prop where
  of_same : ∀ s t : State, t.mem = s.mem → t.cfg = s.cfg → P s → P t
  powerOn : ∀ s : State, P s.powerOnCommand
  write : ∀ (s : State) (a : Nat) (b : Byte), P s → Writable s a → P (s.writeByte a b)

/-- Every byte of a checked block may be written (44_memory_index.md R159). -/
theorem writable_of_accessOk {s : State} {n j : Nat} (h : AccessOk s n true) (hj : j < n) :
    Writable s (s.i.toNat + j) := by
  obtain ⟨htop, hreserved⟩ := h
  refine ⟨?_, fun hr => Nat.le_add_right_of_le (hreserved rfl hr)⟩
  rw [Config.memSize]
  omega

/-- Every byte of a ROM that fits may be written (70_reset_and_hazards.md R262). -/
theorem writable_of_rom (s : State) {n j : Nat} (hn : n ≤ Config.maxRom) (hj : j < n) :
    Writable s (Config.programBase + j) := by
  simp only [Writable, Config.maxRom, Config.memSize, Config.programBase] at hn ⊢
  omega

theorem exec_cfg {i : Instr} {s t : State} (h : exec i s = .next t) : t.cfg = s.cfg := by
  obtain ⟨t', ht', hkept⟩ := exec_completes i s
  obtain rfl : t = t' := Host.Outcome.next.inj (h.symm.trans ht')
  exact hkept.params

namespace MemoryInvariant

variable {P : State → Prop} (hP : MemoryInvariant P)

include hP

theorem keeps_storeFrom {s : State} {a n : Nat} (h : P s) (hw : ∀ j < n, Writable s (a + j)) :
    P (State.storeFrom a n s) := by
  induction n with
  | zero => exact h
  | succ n ih =>
    obtain ⟨m, hm⟩ := State.storeFrom_eq a n s
    have hstored := ih fun j hj => hw j (Nat.lt_succ_of_lt hj)
    simp only [State.storeFrom]
    rw [hm] at hstored ⊢
    exact hP.write _ _ _ hstored (hw n (Nat.lt_succ_self n))

theorem keeps_writeBytes {s : State} {a : Nat} {bs : List Byte} (h : P s) (hw : ∀ j < bs.length, Writable s (a + j)) :
    P (s.writeBytes a bs) := by
  induction bs generalizing a with
  | nil => exact h
  | cons b rest ih =>
    obtain ⟨m, hm⟩ := State.writeBytes_eq s (a + 1) rest
    have hrest := ih (a := a + 1) fun j hj => by
      rw [Nat.add_assoc, Nat.add_comm 1]
      exact hw (j + 1) (Nat.succ_lt_succ hj)
    simp only [State.writeBytes]
    rw [hm] at hrest ⊢
    exact hP.write _ _ _ hrest (hw 0 (Nat.succ_pos _))

theorem keeps_exec {i : Instr} {s t : State} (h : P s) (e : exec i s = .next t) : P t := by
  have hcfg := exec_cfg e
  have hmove := exec_memoryMoves e
  generalize hm : t.mem = m at hmove
  cases hmove with
  | keep => exact hP.of_same s t hm hcfg h
  | @ldB x _ hcheck =>
    have hw (j : Nat) (hj : j < 3) : Writable s (s.i.toNat + j) := writable_of_accessOk hcheck hj
    have hhundreds := hP.write s s.i.toNat (bcdDigit (s.getV x) 0) h (hw 0 (by decide))
    have htens := hP.write _ (s.i.toNat + 1) (bcdDigit (s.getV x) 1) hhundreds (hw 1 (by decide))
    have hones := hP.write _ (s.i.toNat + 2) (bcdDigit (s.getV x) 2) htens (hw 2 (by decide))
    exact hP.of_same _ t hm hcfg hones
  | storeRegs hcheck =>
    have hstore := hP.keeps_storeFrom h fun j => writable_of_accessOk hcheck
    exact hP.of_same _ t hm (hcfg.trans (State.storeFrom_hostKept _ _ s).params.symm) hstore

/-- A poll of the key-wait latch writes a register, not memory (40_cycle.md R94). -/
theorem keeps_waitPoll {s : State} (h : P s) : P s.waitPoll := by
  obtain hp | ⟨b, hp⟩ := s.waitPoll_cases <;> exact hp ▸ hP.of_same s _ rfl rfl h

theorem keeps_stepCommand {s t : State} (h : P s) (e : stepCommand s = .next t) : P t := by
  have hbegin : P s.begin := hP.of_same s _ rfl rfl h
  obtain ⟨-, rfl⟩ | ⟨-, -, rfl⟩ | ⟨-, -, -, rfl⟩ | ⟨-, w, -, rfl⟩ | ⟨-, i, -, hi⟩ := stepCommand_cases e
  · exact hbegin
  · exact hP.keeps_waitPoll hbegin
  · exact hP.of_same s _ rfl rfl h
  · exact hP.of_same s _ rfl rfl h
  · exact hP.keeps_exec hbegin hi

/-- A ROM that fits is written to the memory of POWER_ON, and one that does not writes nothing
(70_reset_and_hazards.md R262, R263). -/
theorem keeps_loadCommand {s : State} (rom : List Byte) (h : P s) : P (s.loadCommand rom) := by
  unfold State.loadCommand
  split
  · exact hP.keeps_writeBytes (hP.powerOn s) fun j => writable_of_rom s.powerOnCommand ‹_›
  · exact hP.of_same s _ rfl rfl h

theorem keeps_step {s t : State} (h : P s) (e : step s = .next t) : P t := by
  refine step_keeps_of_commands (fun s s' hs h => ?_) (fun _ _ => hP.keeps_stepCommand) (fun s h => ?_)
    (fun s h => hP.of_same s _ rfl rfl h) (fun s _ => hP.powerOn s) (fun _ rom => hP.keeps_loadCommand rom) h e
  · exact hP.of_same s'.core s' rfl rfl (hs ▸ hP.of_same s s.core rfl rfl h)
  · obtain ⟨dt, st, htick⟩ := s.tick_eq
    exact htick ▸ hP.of_same s _ rfl rfl h

end MemoryInvariant

theorem memoryInvariant_canonical : MemoryInvariant MemoryCanonical where
  of_same s t hmem hcfg h := by rwa [MemoryCanonical, hcfg, hmem]
  powerOn _ := Memory.wf_nil
  write _ _ b h hw := State.wf_writeByte h hw.1 b

/-- A write that is allowed under RESERVED_WRITE = FAULT is not to an address below 0x200, so such an address keeps its byte. -/
theorem memoryInvariant_lowMemoryIntact : MemoryInvariant LowMemoryIntact where
  of_same s t hmem hcfg h := by
    simp only [LowMemoryIntact, State.readByte, hcfg, hmem]
    exact h
  powerOn _ := fun _ _ _ => rfl
  write s a b h hw := fun hr a' ha' => by
    have hne : a' ≠ a := Nat.ne_of_lt (Nat.lt_of_lt_of_le ha' (hw.2 hr))
    exact (s.readByte_writeByte_other b hne).trans (h hr a' ha')

/-- Settles O55: every write of a command is below 4096, and such a write keeps the canonical form. -/
theorem stepKeepsMemoryCanonical : Obligations.StepKeepsMemoryCanonical := fun _ _ h e =>
  memoryInvariant_canonical.keeps_step h e

/-- Settles O59: the stores check RESERVED_WRITE before they write, and a ROM is written from 0x200 on. -/
theorem stepKeepsLowMemoryIntact : Obligations.StepKeepsLowMemoryIntact := fun _ _ h e =>
  memoryInvariant_lowMemoryIntact.keeps_step h e

end Sys2Proof.Machine
end

section
/-! The encoding (30_encoding.md): a word is made of its fields, and the decoder and the encoder undo each other. -/

namespace Sys2Proof

/-! ### The decoder reads the encoded form back -/

/-- Class 0 is CLS and RET for their own two words only (R80). -/
theorem decodeWord_wordNNN_zero {nnn : Addr} (hcls : nnn ≠ 0x0E0) (hret : nnn ≠ 0x0EE) :
    decodeWord (wordNNN 0x0 nnn) = .instr (.sys nnn) := by
  have hne {other : Addr} (h : nnn ≠ other) : wordNNN 0x0 nnn ≠ wordNNN 0x0 other := fun heq =>
    h (by simpa using congrArg fieldNNN heq)
  have hsys : decodeClass0 (wordNNN 0x0 nnn) = .instr (.sys (fieldNNN (wordNNN 0x0 nnn))) :=
    (if_neg (hne hcls)).trans (if_neg (hne hret))
  simpa [decodeWord] using hsys

theorem decodeWord_encode {i : Instr} (h : i.wellFormed = true) : decodeWord (encode i) = .instr i := by
  cases i with
  | sys nnn =>
    obtain ⟨hcls, hret⟩ : nnn ≠ 0x0E0 ∧ nnn ≠ 0x0EE := by simpa [Instr.wellFormed] using h
    exact decodeWord_wordNNN_zero hcls hret
  | cls | ret => rfl
  | jp | call | ldI | jpOffset | seImm | sneImm | ldImm | addImm | rnd | seReg | sneReg | drw =>
    simp [encode, decodeWord]
  | ldReg | orReg | andReg | xorReg | addReg | subReg | shr | subn | shl => simp [encode, decodeWord, decodeClass8]
  | skp | sknp => simp [encode, decodeWord, decodeClassE]
  | ldVxDt | ldVxK | ldDtVx | ldStVx | addI | ldF | ldB | storeRegs | loadRegs =>
    simp [encode, decodeWord, decodeClassF]

theorem decodeBytes_encodeBytes_append (i : Instr) (rest : List Byte) :
    decodeBytes (encodeBytes i ++ rest) = some (decodeWord (encode i), rest) := by
  simp [encodeBytes, decodeBytes]

/-- Settles O2: the bytes of an instruction make its word, whose fields are those the encoder wrote. -/
theorem decodeOfEncodeIsIdentity : Obligations.DecodeOfEncodeIsIdentity := fun i h =>
  have hword : decodeWord (encode i) = .instr i := decodeWord_encode h
  ⟨hword, fun rest => hword ▸ decodeBytes_encodeBytes_append i rest⟩

/-! ### A word is made of its fields -/

theorem wordNNN_of_fields {w : Word} {op : Nibble} (hop : fieldOp w = op) : wordNNN op (fieldNNN w) = w := by
  subst hop
  apply BitVec.eq_of_toNat_eq
  simp only [toNat_wordNNN, fieldOp, fieldNNN, BitVec.extractLsb'_toNat, Nat.shiftRight_eq_div_pow]
  omega

theorem wordXNN_of_fields {w : Word} {op : Nibble} {nn : Byte} (hop : fieldOp w = op) (hnn : fieldNN w = nn) :
    wordXNN op (fieldX w) nn = w := by
  subst hop hnn
  apply BitVec.eq_of_toNat_eq
  simp only [toNat_wordXNN, fieldOp, fieldX, fieldNN, BitVec.extractLsb'_toNat, Nat.shiftRight_eq_div_pow]
  omega

theorem wordXYN_of_fields {w : Word} {op n : Nibble} (hop : fieldOp w = op) (hn : fieldN w = n) :
    wordXYN op (fieldX w) (fieldY w) n = w := by
  subst hop hn
  apply BitVec.eq_of_toNat_eq
  simp only [toNat_wordXYN, fieldOp, fieldX, fieldY, fieldN, BitVec.extractLsb'_toNat, Nat.shiftRight_eq_div_pow]
  omega

/-- The mask of R81 clears the low nibble. -/
theorem wordXYN_and_clearLow (op x y n : Nibble) : wordXYN op x y n &&& 0xFFF0 = wordXYN op x y 0x0 := by
  show (op ++ x ++ y ++ n) &&& (0xF#4 ++ 0xF#4 ++ 0xF#4 ++ 0x0#4) = op ++ x ++ y ++ 0x0#4
  rw [BitVec.and_append, BitVec.and_append, BitVec.and_append]
  simp only [Laws.MatchesRow.ones4, Laws.MatchesRow.zero4]

theorem wordXYN_zero_of_fields {w : Word} {op : Nibble} (hop : fieldOp w = op) :
    wordXYN op (fieldX w) (fieldY w) 0x0 = w &&& 0xFFF0 := by
  rw [← wordXYN_and_clearLow op (fieldX w) (fieldY w) (fieldN w), wordXYN_of_fields hop rfl]

/-! ### What a word decodes to encodes to that word -/

/-- Instruction i is well formed and w is its word. -/
def Spells (w : Word) (i : Instr) : Prop := i.wellFormed = true ∧ encode i = w

section

variable {w : Word} {i : Instr}

theorem spells_of_decodeClass0 (hop : fieldOp w = 0x0#4) (h : decodeClass0 w = .instr i) : Spells w i := by
  have hw : wordNNN 0x0 (fieldNNN w) = w := wordNNN_of_fields hop
  unfold decodeClass0 at h
  split at h
  next hcls => exact Decoded.instr.inj h ▸ ⟨rfl, hcls.symm⟩
  next hcls =>
    split at h
    next hret => exact Decoded.instr.inj h ▸ ⟨rfl, hret.symm⟩
    next hret =>
      have hne {nnn : Addr} (hv : w ≠ wordNNN 0x0 nnn) : fieldNNN w ≠ nnn := fun heq => hv (heq ▸ hw.symm)
      obtain rfl := Decoded.instr.inj h
      exact ⟨by simpa [Instr.wellFormed] using And.intro (hne (nnn := 0x0E0) hcls) (hne (nnn := 0x0EE) hret), hw⟩

theorem spells_of_decodeClass8 (hop : fieldOp w = 0x8#4) (h : decodeClass8 w = .instr i) : Spells w i := by
  unfold decodeClass8 at h
  split at h
  case h_10 => cases h
  all_goals next hn => exact Decoded.instr.inj h ▸ ⟨rfl, wordXYN_of_fields hop hn⟩

theorem spells_of_decodeClassE (hop : fieldOp w = 0xE#4) (h : decodeClassE w = .instr i) : Spells w i := by
  unfold decodeClassE at h
  split at h
  case h_3 => cases h
  all_goals next hnn => exact Decoded.instr.inj h ▸ ⟨rfl, wordXNN_of_fields hop hnn⟩

theorem spells_of_decodeClassF (hop : fieldOp w = 0xF#4) (h : decodeClassF w = .instr i) : Spells w i := by
  unfold decodeClassF at h
  split at h
  case h_10 => cases h
  all_goals next hnn => exact Decoded.instr.inj h ▸ ⟨rfl, wordXNN_of_fields hop hnn⟩

theorem nibble_mem_all (n : Nibble) :
    n ∈ [0x0#4, 0x1#4, 0x2#4, 0x3#4, 0x4#4, 0x5#4, 0x6#4, 0x7#4, 0x8#4, 0x9#4, 0xA#4, 0xB#4, 0xC#4, 0xD#4, 0xE#4,
      0xF#4] := by
  decide +revert

/-- Outside classes 5 and 9 the decoder examines every bit. -/
theorem spells_of_decodeWord (h5 : fieldOp w ≠ 0x5#4) (h9 : fieldOp w ≠ 0x9#4) (h : decodeWord w = .instr i) :
    Spells w i := by
  unfold decodeWord at h
  split at h
  case h_1 hop => exact spells_of_decodeClass0 hop h
  case h_6 hop => exact absurd hop h5
  case h_9 hop => exact spells_of_decodeClass8 hop h
  case h_10 hop => exact absurd hop h9
  case h_15 hop => exact spells_of_decodeClassE hop h
  case h_16 =>
    have hop : fieldOp w = 0xF#4 := by
      have hmem := nibble_mem_all (fieldOp w)
      simp_all
    exact spells_of_decodeClassF hop h
  case h_2 hop | h_3 hop | h_11 hop | h_12 hop => exact Decoded.instr.inj h ▸ ⟨rfl, wordNNN_of_fields hop⟩
  case h_4 hop | h_5 hop | h_7 hop | h_8 hop | h_13 hop =>
    exact Decoded.instr.inj h ▸ ⟨rfl, wordXNN_of_fields hop rfl⟩
  case h_14 hop => exact Decoded.instr.inj h ▸ ⟨rfl, wordXYN_of_fields hop rfl⟩

/-- Class 5 is SE VX, VY whatever the low nibble (R81). -/
theorem decodeWord_class5 (hop : fieldOp w = 0x5#4) : decodeWord w = .instr (.seReg (fieldX w) (fieldY w)) := by
  simp only [decodeWord, hop]

/-- Class 9 is SNE VX, VY whatever the low nibble (R81). -/
theorem decodeWord_class9 (hop : fieldOp w = 0x9#4) : decodeWord w = .instr (.sneReg (fieldX w) (fieldY w)) := by
  simp only [decodeWord, hop]

end

/-- Settles O3: outside classes 5 and 9 the instruction spells the word, and in them it spells the word with N = 0. -/
theorem encodeOfDecodeIsWord : Obligations.EncodeOfDecodeIsWord := by
  intro w i h
  change i.wellFormed = true ∧ encode i = if fieldOp w = 0x5#4 ∨ fieldOp w = 0x9#4 then w &&& 0xFFF0 else w
  by_cases h59 : fieldOp w = 0x5#4 ∨ fieldOp w = 0x9#4
  · rw [if_pos h59]
    obtain hop | hop := h59
    · exact Decoded.instr.inj ((decodeWord_class5 hop).symm.trans h) ▸ ⟨rfl, wordXYN_zero_of_fields hop⟩
    · exact Decoded.instr.inj ((decodeWord_class9 hop).symm.trans h) ▸ ⟨rfl, wordXYN_zero_of_fields hop⟩
  · rw [if_neg h59]
    exact spells_of_decodeWord (fun hop => h59 (.inl hop)) (fun hop => h59 (.inr hop)) h

/-! ### The unknown words (R78) -/

section

variable (w : Word)

theorem decodeClass0_ne_unknown : decodeClass0 w ≠ .unknown w := by
  unfold decodeClass0
  split
  · exact nofun
  · split <;> exact nofun

theorem decodeClass8_eq_unknown_iff :
    decodeClass8 w = .unknown w ↔ fieldN w ∈ [0x8#4, 0x9#4, 0xA#4, 0xB#4, 0xC#4, 0xD#4, 0xF#4] := by
  unfold decodeClass8
  split
  case h_10 =>
    have hmem := nibble_mem_all (fieldN w)
    simp_all
  all_goals next hn => simp [hn]

theorem decodeClassE_eq_unknown_iff : decodeClassE w = .unknown w ↔ fieldNN w ∉ [0x9E#8, 0xA1#8] := by
  unfold decodeClassE
  split
  case h_3 => simp_all
  all_goals next hnn => simp [hnn]

theorem decodeClassF_eq_unknown_iff :
    decodeClassF w = .unknown w ↔
      fieldNN w ∉ [0x07#8, 0x0A#8, 0x15#8, 0x18#8, 0x1E#8, 0x29#8, 0x33#8, 0x55#8, 0x65#8] := by
  unfold decodeClassF
  split
  case h_10 => simp_all
  all_goals next hnn => simp [hnn]

/-- Only the three split classes other than class 0 have unknown words (R75). -/
theorem decodeWord_eq_unknown_iff :
    decodeWord w = .unknown w ↔
      (fieldOp w = 0x8#4 ∧ decodeClass8 w = .unknown w) ∨ (fieldOp w = 0xE#4 ∧ decodeClassE w = .unknown w) ∨
        (fieldOp w = 0xF#4 ∧ decodeClassF w = .unknown w) := by
  unfold decodeWord
  split
  case h_1 hop => simp [hop, decodeClass0_ne_unknown]
  case h_16 =>
    have hop : fieldOp w = 0xF#4 := by
      have hmem := nibble_mem_all (fieldOp w)
      simp_all
    simp [hop]
  all_goals next hop => simp [hop]

end

/-- Settles O4: class 8, E or F, each with its own list. -/
theorem unknownWordsAreThoseListed : Obligations.UnknownWordsAreThoseListed := by
  intro w
  rw [decodeWord_eq_unknown_iff, decodeClass8_eq_unknown_iff, decodeClassE_eq_unknown_iff, decodeClassF_eq_unknown_iff]
  exact Iff.rfl

/-! ### Words written out -/

/-- Settles O1: the decoder evaluates each of the thirteen words. -/
theorem spelledWordsDecode : Obligations.SpelledWordsDecode := by
  unfold Obligations.SpelledWordsDecode
  decide

end Sys2Proof
end

section
/-! The cycle (40_cycle.md): a listed STEP from its start state, what an instruction does to the timers, what a fault leaves
alone, and the poll of the key-wait latch. -/

namespace Sys2Proof.Machine

open Sys2Proof.Safety

/-! ### A STEP from its start state (R90, R91) -/

section

variable {s t : State} {k : Word} {b : Byte} {rest : List HostCommand}

theorem step_of_listed (hp : s.pending = .step k b :: rest) :
    step s = stepCommand ((s.takePending rest).sample k b) :=
  step_of_pending_cons hp

/-- Everything a listed STEP can do, by the state it is issued in (R92 to R95, R98). -/
theorem listedStep_cases (hp : s.pending = .step k b :: rest) (h : step s = .next t) :
    (s.faultCode ≠ .none ∧ t = stepStart s k b rest) ∨
    (s.faultCode = .none ∧ s.awaiting = true ∧ t = (stepStart s k b rest).waitPoll) ∨
    (s.faultCode = .none ∧ s.awaiting = false ∧ s.pc.toNat > 0x0FFE ∧
      t = (stepStart s k b rest).raise .addressError 0x0000) ∨
    (Fetches s ∧ ∃ w, decodeWord (wordAtPc s) = .unknown w ∧ t = (stepStart s k b rest).raise .unknownOpcode w) ∨
    (Fetches s ∧ ∃ i, decodeWord (wordAtPc s) = .instr i ∧ exec i (stepStart s k b rest) = .next t) :=
  stepCommand_cases ((step_of_listed hp).symm.trans h)

theorem step_of_listed_halted (hp : s.pending = .step k b :: rest) (hf : s.faultCode ≠ .none) :
    step s = .next (stepStart s k b rest) :=
  (step_of_listed hp).trans (stepCommand_of_halted hf)

theorem step_of_listed_waiting (hp : s.pending = .step k b :: rest) (hf : s.faultCode = .none)
    (hw : s.awaiting = true) : step s = .next (stepStart s k b rest).waitPoll :=
  (step_of_listed hp).trans (stepCommand_of_waiting hf hw)

theorem step_of_listed_fetching (hp : s.pending = .step k b :: rest) (hf : s.faultCode = .none)
    (hw : s.awaiting = false) : step s = fetchExecute (stepStart s k b rest) :=
  (step_of_listed hp).trans (stepCommand_of_fetching hf hw)

end

/-- A STEP that the host has not listed starts from the free values, and the counter of draws moves on (log entry 3). -/
theorem begin_of_unlisted_step {s : State} (hp : s.pending = []) :
    s.sampleFree.begin =
      { stepStart s (Config.freeKeys s.draws) (Config.freeRand s.draws) [] with draws := s.draws + 1 } := by
  rw [← hp]
  rfl

/-! ### The parts that a fault and a poll leave alone -/

theorem part_same_refl (p : Part) (s : State) : p.same s s := by
  cases p with
  | regs | memory => exact fun _ => rfl
  | keyWait | faultRecord => exact ⟨rfl, rfl, rfl⟩
  | stack | timers | ports | host => exact ⟨rfl, rfl⟩
  | index | pc | screen | displayFlag | report | params => rfl

/-- Raising a fault is precise (60_exceptions.md R231): it writes the fault record and the report, and nothing else. -/
theorem State.raise_faultEffect (s : State) (code : FaultCode) (w : Word) : FaultEffect s (s.raise code w) code w := by
  refine ⟨rfl, rfl, rfl, rfl, fun p hp => ?_⟩
  have hsame := part_same_refl p s
  cases p with
  | faultRecord | report => exact absurd hp (by decide)
  | _ => exact hsame

theorem State.waitPoll_frame (s : State) : Frame [.regs, .pc, .keyWait] s s.waitPoll := by
  intro p hp
  have hsame := part_same_refl p s
  obtain hpoll | ⟨b, hpoll⟩ := s.waitPoll_cases
  all_goals
    rw [hpoll]
    cases p with
    | regs | pc | keyWait => exact absurd hp (by decide)
    | _ => exact hsame

/-! ### The poll of the key-wait latch (R94) -/

theorem State.waitPoll_keyBase (s : State) : s.waitPoll.keyBase = s.keys := by
  obtain hpoll | ⟨b, hpoll⟩ := s.waitPoll_cases <;> rw [hpoll] <;> rfl

theorem State.waitPoll_awaitX (s : State) : s.waitPoll.awaitX = s.awaitX := by
  obtain hpoll | ⟨b, hpoll⟩ := s.waitPoll_cases <;> rw [hpoll] <;> rfl

theorem State.waitPoll_faultCode (s : State) : s.waitPoll.faultCode = s.faultCode :=
  (s.waitPoll_frame .faultRecord (by decide)).1

/-- The bits the poll looks at are the keys that are down now and were up at the last STEP of the wait. -/
theorem getLsbD_newKeys {k base : Word} {j : Nat} (hj : j < 16) :
    (k &&& ~~~base).getLsbD j = true ↔ NewKey k base j := by
  simp [NewKey, hj]

theorem leastKey_eq_some_of_least {k base : Word} {j : Nat} (hj : j < 16) (hnew : NewKey k base j)
    (hleast : ∀ j', j' < j → ¬ NewKey k base j') : leastKey (k &&& ~~~base) = some j := by
  refine List.find?_range_eq_some.2 ⟨(getLsbD_newKeys hj).2 hnew, List.mem_range.2 hj, fun j' hj' => ?_⟩
  rw [Bool.not_eq_true', ← Bool.not_eq_true, getLsbD_newKeys (Nat.lt_trans hj' hj)]
  exact hleast j' hj'

theorem leastKey_eq_none_of_no_newKey {k base : Word} (h : ∀ j, j < 16 → ¬ NewKey k base j) :
    leastKey (k &&& ~~~base) = none :=
  List.find?_eq_none.2 fun j hj hnew => h j (List.mem_range.1 hj) ((getLsbD_newKeys (List.mem_range.1 hj)).1 hnew)

theorem State.waitPoll_of_leastKey {s : State} {j : Nat} (h : leastKey (s.keys &&& ~~~s.keyBase) = some j) :
    s.waitPoll = ((s.setV s.awaitX (BitVec.ofNat 8 j)).endKeyWait.next).setKeyBase s.keys := by
  simp only [State.waitPoll, h]

theorem State.waitPoll_of_no_key {s : State} (h : leastKey (s.keys &&& ~~~s.keyBase) = none) :
    s.waitPoll = s.setKeyBase s.keys := by
  simp only [State.waitPoll, h]

/-- A poll that finds key j stores it, ends the wait and leaves the FX0A. -/
theorem State.waitPoll_completes_wait {s : State} {j : Nat} (hj : j < 16)
    (h : leastKey (s.keys &&& ~~~s.keyBase) = some j) :
    s.waitPoll.awaiting = false ∧ (s.waitPoll.getV s.awaitX).toNat = j ∧ RegsKept [s.awaitX] s s.waitPoll ∧
      s.waitPoll.pc = s.pc + 2 := by
  rw [State.waitPoll_of_leastKey h]
  refine ⟨rfl, ?_, fun r hr => ?_, rfl⟩
  · have hkey : (((s.setV s.awaitX (BitVec.ofNat 8 j)).endKeyWait.next).setKeyBase s.keys).getV s.awaitX =
        BitVec.ofNat 8 j := by simp
    rw [hkey, BitVec.toNat_ofNat, Nat.mod_eq_of_lt (by omega)]
  · have hne : r ≠ s.awaitX := by simpa using hr
    simp [hne]

/-- Settles O30: the poll of the start state stores the least new key, and moves the baseline alone when there is none. -/
theorem waitingStepPollsKeys : Obligations.WaitingStepPollsKeys := by
  intro s k b rest hp hf hw
  let u := stepStart s k b rest
  refine ⟨u.waitPoll, step_of_listed_waiting hp hf hw, u.waitPoll_keyBase, u.waitPoll_awaitX, ?_, ?_, u.waitPoll_frame⟩
  · intro j hj hnew hleast
    exact State.waitPoll_completes_wait (s := u) hj (leastKey_eq_some_of_least hj hnew hleast)
  · intro hnone
    rw [State.waitPoll_of_no_key (s := u) (leastKey_eq_none_of_no_newKey hnone)]
    exact ⟨hw, fun _ _ => rfl, rfl⟩

/-! ### What an instruction can do to the timers (48_timers.md R221, R222) -/

/-- The values of DT and ST that instruction i can leave. -/
inductive TimerMoves : Instr → State → Byte → Byte → Prop where
  | keep {i s} : TimerMoves i s s.dt s.st
  | ldDtVx {x s} : TimerMoves (.ldDtVx x) s (s.getV x) s.st
  | ldStVx {x s} : TimerMoves (.ldStVx x) s s.dt (s.getV x)

section

variable {i : Instr} {s t u : State} {w : Word}

theorem timerMoves_of_same (h : Part.timers.same s t) : TimerMoves i s t.dt t.st := by
  obtain ⟨hdt, hst⟩ := h
  rw [hdt, hst]
  exact .keep

theorem timerMoves_of_next (h : (.next u : Host.Outcome State Fault Refusal) = .next t)
    (hu : TimerMoves i s u.dt u.st) : TimerMoves i s t.dt t.st :=
  Host.Outcome.next.inj h ▸ hu

/-- A checked instruction that fails its check raises a fault, which keeps the timers. -/
theorem timerMoves_of_check {c : Prop} [Decidable c]
    (h : (if c then .next (s.raise .addressError w) else .next u : Host.Outcome State Fault Refusal) = .next t)
    (hu : TimerMoves i s u.dt u.st) : TimerMoves i s t.dt t.st := by
  split at h
  · exact timerMoves_of_next h .keep
  · exact timerMoves_of_next h hu

end

theorem State.logicFlag_timers (s : State) : Part.timers.same s s.logicFlag := by
  unfold State.logicFlag
  split <;> exact ⟨rfl, rfl⟩

theorem State.storeFrom_timers (a n : Nat) (s : State) : Part.timers.same s (State.storeFrom a n s) := by
  obtain ⟨m, hm⟩ := State.storeFrom_eq a n s
  rw [hm]
  exact ⟨rfl, rfl⟩

theorem State.loadFrom_timers (a n : Nat) (s : State) : Part.timers.same s (State.loadFrom a n s) := by
  obtain ⟨v, hv⟩ := State.loadFrom_eq a n s
  rw [hv]
  exact ⟨rfl, rfl⟩

theorem execSys_cases {nnn : Addr} {s t : State} (h : exec (.sys nnn) s = .next t) :
    t = s.next ∨ t = s.raise .unknownOpcode (encode (.sys nnn)) := by
  simp only [exec, execSys] at h
  split at h
  · exact .inl (Host.Outcome.next.inj h).symm
  · exact .inr (Host.Outcome.next.inj h).symm

theorem execCall_cases {nnn : Addr} {s t : State} (h : exec (.call nnn) s = .next t) :
    (∃ u, s.push (s.pc + 2) = some u ∧ t = u.setPc (nnn.setWidth 16)) ∨
    t = s.raise .stackOverflow (encode (.call nnn)) := by
  simp only [exec, execCall] at h
  split at h
  next u hp => exact .inl ⟨u, hp, (Host.Outcome.next.inj h).symm⟩
  next => exact .inr (Host.Outcome.next.inj h).symm

theorem execRet_cases {s t : State} (h : exec .ret s = .next t) :
    (∃ target u, s.pop = some (target, u) ∧ t = u.setPc target) ∨ t = s.raise .stackUnderflow (encode .ret) := by
  simp only [exec, execRet] at h
  split at h
  next target u hp => exact .inl ⟨target, u, hp, (Host.Outcome.next.inj h).symm⟩
  next => exact .inr (Host.Outcome.next.inj h).symm

theorem State.push_timers {s u : State} {w : Word} (h : s.push w = some u) : Part.timers.same s u := by
  obtain ⟨_, rfl⟩ := State.push_eq_some h
  exact ⟨rfl, rfl⟩

theorem State.pop_timers {s u : State} {w : Word} (h : s.pop = some (w, u)) : Part.timers.same s u := by
  obtain ⟨_, _, _, rfl⟩ := State.pop_eq_some h
  exact ⟨rfl, rfl⟩

/-- Everything an instruction can do to the timers. -/
theorem exec_timerMoves {i : Instr} {s t : State} (h : exec i s = .next t) : TimerMoves i s t.dt t.st := by
  cases i with
  | sys nnn => obtain rfl | rfl := execSys_cases h <;> exact .keep
  | call nnn =>
    obtain ⟨u, hp, rfl⟩ | rfl := execCall_cases h
    · exact timerMoves_of_same (t := u) (State.push_timers hp)
    · exact .keep
  | ret =>
    obtain ⟨target, u, hp, rfl⟩ | rfl := execRet_cases h
    · exact timerMoves_of_same (t := u) (State.pop_timers hp)
    · exact .keep
  | ldDtVx x => exact timerMoves_of_next h .ldDtVx
  | ldStVx x => exact timerMoves_of_next h .ldStVx
  | storeRegs x => exact timerMoves_of_check h (timerMoves_of_same (State.storeFrom_timers _ _ s))
  | loadRegs x => exact timerMoves_of_check h (timerMoves_of_same (State.loadFrom_timers _ _ s))
  | addI | drw | ldB => exact timerMoves_of_check h .keep
  | orReg x y | andReg x y | xorReg x y =>
    exact timerMoves_of_next h (timerMoves_of_same (s.setV x _).logicFlag_timers)
  | cls | jp | seImm | sneImm | seReg | sneReg | jpOffset | ldImm | addImm | ldReg | addReg | subReg | shr | subn | shl
  | ldI | ldF | rnd | skp | sknp | ldVxK | ldVxDt => exact timerMoves_of_next h .keep

theorem State.waitPoll_timers (s : State) : Part.timers.same s s.waitPoll := s.waitPoll_frame .timers (by decide)

/-- Settles O50: a halt, a poll and a fault keep the timers, and so does every instruction but the two that write them. -/
theorem stepKeepsTimers : Obligations.StepKeepsTimers := by
  intro s t k b rest hp h
  obtain ⟨-, rfl⟩ | ⟨-, -, rfl⟩ | ⟨-, -, -, rfl⟩ | ⟨-, w, -, rfl⟩ | ⟨-, i, hd, hi⟩ := listedStep_cases hp h
  · exact ⟨.inl rfl, .inl rfl⟩
  · obtain ⟨hdt, hst⟩ := (stepStart s k b rest).waitPoll_timers
    exact ⟨.inl hdt, .inl hst⟩
  · exact ⟨.inl rfl, .inl rfl⟩
  · exact ⟨.inl rfl, .inl rfl⟩
  · have hmove := exec_timerMoves hi
    generalize t.dt = dt, t.st = st at hmove
    cases hmove with
    | keep => exact ⟨.inl rfl, .inl rfl⟩
    | ldDtVx => exact ⟨.inr ⟨_, hd⟩, .inl rfl⟩
    | ldStVx => exact ⟨.inl rfl, .inr ⟨_, hd⟩⟩

/-! ### The word of an unknown instruction (R93) -/

section

variable {w w' : Word}

theorem unknown_word_of_decodeClass0 (h : decodeClass0 w = .unknown w') : w' = w := by
  unfold decodeClass0 at h
  split at h
  · cases h
  · split at h <;> cases h

theorem unknown_word_of_decodeClass8 (h : decodeClass8 w = .unknown w') : w' = w := by
  unfold decodeClass8 at h
  split at h <;> cases h
  rfl

theorem unknown_word_of_decodeClassE (h : decodeClassE w = .unknown w') : w' = w := by
  unfold decodeClassE at h
  split at h <;> cases h
  rfl

theorem unknown_word_of_decodeClassF (h : decodeClassF w = .unknown w') : w' = w := by
  unfold decodeClassF at h
  split at h <;> cases h
  rfl

/-- The decoder answers Unknown with the word it was given (30_encoding.md R76). -/
theorem unknown_word_of_decodeWord (h : decodeWord w = .unknown w') : w' = w := by
  unfold decodeWord at h
  split at h
  case h_1 => exact unknown_word_of_decodeClass0 h
  case h_9 => exact unknown_word_of_decodeClass8 h
  case h_15 => exact unknown_word_of_decodeClassE h
  case h_16 => exact unknown_word_of_decodeClassF h
  all_goals cases h

end

/-! ### The STEP transaction (R90 to R98) -/

/-- Settles O46: the fetch, the decoder and an instruction raise their faults from the start state, and nothing else that a
STEP does writes the fault record. -/
theorem faultingStepIsPrecise : Obligations.FaultingStepIsPrecise := by
  intro s t k b rest hp hf h hfault
  obtain ⟨hne, -⟩ | ⟨-, -, rfl⟩ | ⟨-, -, -, rfl⟩ | ⟨-, w, -, rfl⟩ | ⟨-, i, -, hi⟩ := listedStep_cases hp h
  · exact absurd hf hne
  · exact absurd ((stepStart s k b rest).waitPoll_faultCode.trans hf) hfault
  · exact State.raise_faultEffect _ _ _
  · exact State.raise_faultEffect _ _ _
  · obtain ⟨code, w, -, rfl⟩ | hex := exec_raisesOrExecutes hi
    · exact State.raise_faultEffect _ _ _
    · exact absurd (hex.faultRecord.1.trans hf) hfault

/-- Settles O36: the decoder answers Unknown with the word it was given, and the fault raised with it is precise. -/
theorem unknownWordFaults : Obligations.UnknownWordFaults := by
  intro s k b rest w hp hF hd
  obtain ⟨hf, hw, hpc⟩ := hF
  refine ⟨unknown_word_of_decodeWord hd, _, ?_, (stepStart s k b rest).raise_faultEffect _ w⟩
  exact (step_of_listed_fetching hp hf hw).trans (fetchExecute_of_unknown hpc hd)

/-- Settles O35: the fault of the fetch is raised before any word is read, so its word is 0. -/
theorem fetchOutOfRangeFaults : Obligations.FetchOutOfRangeFaults := by
  intro s k b rest hp hf hw hpc
  refine ⟨_, ?_, (stepStart s k b rest).raise_faultEffect .addressError 0x0000⟩
  exact (step_of_listed_fetching hp hf hw).trans (fetchExecute_of_pc_high hpc)

/-- Settles O34: a halted STEP stops in its start state. -/
theorem haltedStepDoesNothing : Obligations.HaltedStepDoesNothing := fun _ _ _ _ hp hf =>
  ⟨_, step_of_listed_halted hp hf, rfl⟩

/-- Settles O32: the start state has the PC and the memory of the state the STEP is issued in, so it fetches the same word. -/
theorem stepRunsDecodedInstruction : Obligations.StepRunsDecodedInstruction := by
  intro s k b rest i hp hF hd
  obtain ⟨hf, hw, hpc⟩ := hF
  exact (step_of_listed_fetching hp hf hw).trans (fetchExecute_of_instr hpc hd)

/-- Settles O33: an unlisted STEP takes the same way from its own start state. -/
theorem unlistedStepRunsDecodedInstruction : Obligations.UnlistedStepRunsDecodedInstruction := by
  intro s i hp hF hd
  obtain ⟨hf, hw, hpc⟩ := hF
  calc step s = stepCommand s.sampleFree := step_of_pending_nil hp
    _ = fetchExecute s.sampleFree.begin := stepCommand_of_fetching hf hw
    _ = exec i s.sampleFree.begin := fetchExecute_of_instr hpc hd
    _ = _ := congrArg (exec i) (begin_of_unlisted_step hp)

end Sys2Proof.Machine
end

section
/-! Flow control (41_flow_control.md): what a jump, a skip, a CALL and a RET do, and that RET undoes CALL. -/

namespace Sys2Proof.Machine

open Sys2Proof.Safety

/-! ### What a write of PC, and of the stack with PC, leaves alone -/

theorem State.setPc_pcEffect (s : State) (target : Word) : PcEffect s (s.setPc target) target := by
  refine ⟨rfl, fun p hp => ?_⟩
  have hsame := part_same_refl p s
  cases p with
  | pc => exact absurd hp (by decide)
  | _ => exact hsame

theorem frame_of_stack_pc (s : State) (stack : Vector Word 16) (sp : Fin 17) (pc : Word) :
    Frame [.stack, .pc] s { s with stack := stack, sp := sp, pc := pc } := by
  intro p hp
  have hsame := part_same_refl p s
  cases p with
  | stack | pc => exact absurd hp (by decide)
  | _ => exact hsame

/-! ### CALL and RET (R112, R113) -/

theorem exec_call_of_lt (nnn : Addr) {s : State} (h : s.sp.val < 16) :
    exec (.call nnn) s = .next
      { s with
        stack := s.stack.set s.sp.val (s.pc + 2), sp := ⟨s.sp.val + 1, Nat.succ_lt_succ h⟩,
        pc := nnn.setWidth 16 } := by
  have hpush : s.push (s.pc + 2) = some _ := dif_pos h
  simp only [exec, execCall, hpush]
  rfl

theorem exec_call_of_full (nnn : Addr) {s : State} (h : s.sp.val = 16) :
    exec (.call nnn) s = .next (s.raise .stackOverflow (encode (.call nnn))) := by
  simp only [exec, execCall, State.push_eq_none.2 h]

/-- The return is to the top slot, the one below SP. -/
theorem exec_ret_of_top {s : State} {k : Nat} (hk : k < 16) (h : k + 1 = s.sp.val) :
    exec .ret s = .next { s with sp := ⟨k, Nat.lt_succ_of_lt hk⟩, pc := s.stack[k] } := by
  obtain rfl : k = s.sp.val - 1 := by omega
  have hpop : s.pop = some _ := dif_pos (by omega)
  simp only [exec, execRet, hpop]
  rfl

theorem exec_ret_of_empty {s : State} (h : s.sp.val = 0) :
    exec .ret s = .next (s.raise .stackUnderflow (encode .ret)) := by
  simp only [exec, execRet, State.pop_eq_none.2 h]

/-- Settles O7: below depth 16 the one slot written is stack[SP], and at depth 16 the push fails before any write. -/
theorem callPushesReturnAddress : Obligations.CallPushesReturnAddress := by
  intro nnn s
  refine ⟨decodeWord_encode (i := .call nnn) rfl, fun hsp => ?_, fun hsp => ?_⟩
  · refine ⟨_, exec_call_of_lt nnn hsp, fun j => ?_, rfl, rfl, frame_of_stack_pc s _ _ _⟩
    exact (Vector.getElem_set hsp j.isLt).trans (ite_congr (propext eq_comm) (fun _ => rfl) (fun _ => rfl))
  · exact ⟨_, exec_call_of_full nnn hsp, s.raise_faultEffect _ _⟩

/-- Settles O8: above depth 0 PC and SP are all that RET writes, and at depth 0 the pop fails before any write. -/
theorem retPopsReturnAddress : Obligations.RetPopsReturnAddress := by
  intro s
  refine ⟨decodeWord_encode (i := .ret) rfl, fun hsp => ?_, fun hsp => ?_⟩
  · obtain ⟨k, hk⟩ : ∃ k, k + 1 = s.sp.val := ⟨s.sp.val - 1, by omega⟩
    refine ⟨_, exec_ret_of_top (by omega) hk, hk, fun j hj => ?_, rfl, frame_of_stack_pc s s.stack _ _⟩
    obtain rfl : j.val = k := by omega
    rfl
  · exact ⟨_, exec_ret_of_empty hsp, s.raise_faultEffect _ _⟩

/-- Settles O9: the slot RET reads, the one below the SP that CALL left, is the one CALL wrote. -/
theorem retUndoesCall : Obligations.RetUndoesCall := by
  intro nnn s t u hsp hcall hstack hdepth
  obtain ⟨-, hpush, -⟩ := callPushesReturnAddress nnn s
  obtain ⟨t', ht', hslot, hspt, -⟩ := hpush hsp
  obtain rfl : t = t' := Host.Outcome.next.inj (hcall.symm.trans ht')
  have hspu : u.sp.val = s.sp.val + 1 := hdepth ▸ hspt
  obtain ⟨-, hpop, -⟩ := retPopsReturnAddress u
  obtain ⟨r, hr, hspr, hpc, -, hframe⟩ := hpop (by omega)
  refine ⟨r, hr, ?_, Fin.ext (by omega), hframe⟩
  let top : Fin 16 := ⟨s.sp.val, hsp⟩
  calc r.pc = u.stack[top] := hpc top hspu.symm
    _ = t.stack[top] := by rw [hstack]
    _ = s.pc + 2 := (hslot top).trans (if_pos rfl)

/-! ### SYS (R110) -/

theorem exec_sys_of_ignore (nnn : Addr) {s : State} (h : s.cfg.sysMode = .ignore) :
    exec (.sys nnn) s = .next (s.setPc (s.pc + 2)) := by
  simp only [exec, execSys, h]
  rfl

theorem exec_sys_of_fault (nnn : Addr) {s : State} (h : s.cfg.sysMode = .fault) :
    exec (.sys nnn) s = .next (s.raise .unknownOpcode (encode (.sys nnn))) := by
  simp only [exec, execSys, h]

/-- Settles O5: SYS_MODE chooses between the advance of PC and the fault, which holds the word of the instruction. -/
theorem sysIgnoredOrUnknownOpcode : Obligations.SysIgnoredOrUnknownOpcode := fun nnn s =>
  ⟨decodeWord_wordNNN_zero, fun h => ⟨_, exec_sys_of_ignore nnn h, s.setPc_pcEffect _⟩,
    fun h => ⟨_, exec_sys_of_fault nnn h, s.raise_faultEffect _ _⟩⟩

/-! ### Jumps (R111, R118) -/

/-- The sum of a 12-bit address and a byte does not wrap at 16 bits. -/
theorem toNat_offsetTarget (nnn : Addr) (b : Byte) :
    (nnn.setWidth 16 + b.setWidth 16 : Word).toNat = nnn.toNat + b.toNat := by
  bv_omega

/-- Settles O6: both jumps write PC alone, and the target of BNNN is an exact sum. -/
theorem jumpsSetPc : Obligations.JumpsSetPc := by
  intro nnn s
  obtain ⟨hpc, hframe⟩ := s.setPc_pcEffect (nnn.setWidth 16 + (s.jumpOffset nnn).setWidth 16)
  exact ⟨decodeWord_encode (i := .jp nnn) rfl, decodeWord_encode (i := .jpOffset nnn) rfl,
    ⟨_, rfl, s.setPc_pcEffect _⟩,
    ⟨_, rfl, (congrArg BitVec.toNat hpc).trans (toNat_offsetTarget nnn (s.jumpOffset nnn)), hframe⟩⟩

/-! ### Skips (R114 to R117, R119) -/

/-- A skip on the test c of the condition P. -/
theorem State.skipIf_pcEffect (s : State) {c : Bool} {P : Prop} [Decidable P] (h : c = true ↔ P) :
    PcEffect s (s.skipIf c) (if P then s.pc + 4 else s.pc + 2) := by
  cases c with
  | true =>
    rw [if_pos (h.1 rfl)]
    exact s.setPc_pcEffect _
  | false =>
    rw [if_neg fun hP => Bool.false_ne_true (h.2 hP)]
    exact s.setPc_pcEffect _

theorem decodeWord_seReg (x y n : Nibble) : decodeWord (wordXYN 0x5#4 x y n) = .instr (.seReg x y) := by
  rw [decodeWord_class5 (fieldOp_wordXYN _ x y n), fieldX_wordXYN, fieldY_wordXYN]

theorem decodeWord_sneReg (x y n : Nibble) : decodeWord (wordXYN 0x9#4 x y n) = .instr (.sneReg x y) := by
  rw [decodeWord_class9 (fieldOp_wordXYN _ x y n), fieldX_wordXYN, fieldY_wordXYN]

/-- Settles O10: SE tests equality and SNE its negation, and a skip writes PC alone. -/
theorem immediateSkips : Obligations.ImmediateSkips := fun x nn s =>
  ⟨decodeWord_encode (i := .seImm x nn) rfl, decodeWord_encode (i := .sneImm x nn) rfl,
    ⟨_, rfl, s.skipIf_pcEffect beq_iff_eq⟩, ⟨_, rfl, s.skipIf_pcEffect bne_iff_ne⟩⟩

/-- Settles O11: as the immediate skips, for every word of classes 5 and 9. -/
theorem registerSkips : Obligations.RegisterSkips := fun x y s =>
  ⟨fun n => ⟨decodeWord_seReg x y n, decodeWord_sneReg x y n⟩,
    ⟨_, rfl, s.skipIf_pcEffect beq_iff_eq⟩, ⟨_, rfl, s.skipIf_pcEffect bne_iff_ne⟩⟩

end Sys2Proof.Machine
end

section
/-! Register copies, logic, sums, differences and shifts (42_alu.md): what a write of V[X], with or without a flag in VF, does,
and the model's bytes as the naturals that the rules speak of. -/

namespace Sys2Proof.Machine

open Sys2Proof.Safety

/-! ### Writes of registers that advance PC -/

theorem frame_of_regs_pc (s : State) (v : Vector Byte 16) (pc : Word) :
    Frame [.regs, .pc] s { s with v := v, pc := pc } := by
  intro p hp
  have hsame := part_same_refl p s
  cases p with
  | regs | pc => exact absurd hp (by decide)
  | _ => exact hsame

theorem State.setV_next_regEffect (s : State) (x : Nibble) (b : Byte) : RegEffect s (s.setV x b).next x b := by
  refine ⟨?result, fun r hr => ?kept, rfl, frame_of_regs_pc s _ _⟩
  case result => rw [State.next_getV, State.getV_setV, if_pos rfl]
  case kept => rw [State.next_getV, State.getV_setV, if_neg (List.ne_of_not_mem_cons hr)]

/-- The flag is written second, so it is what VF holds when X = F too (00_scope.md R13). -/
theorem State.setVFlag_next_regFlagEffect (s : State) (x : Nibble) (b f : Byte) :
    RegFlagEffect s (s.setVFlag x b f).next x b f := by
  refine ⟨?flag, fun hx => ?result, fun r hr => ?kept, rfl, frame_of_regs_pc s _ _⟩
  case flag => rw [State.next_getV, State.getV_setVFlag, if_pos rfl]
  case result => rw [State.next_getV, State.getV_setVFlag, if_neg hx, if_pos rfl]
  case kept =>
    have hrx : r ≠ x := List.ne_of_not_mem_cons hr
    have hrF : r ≠ 0xF := List.ne_of_not_mem_cons (List.not_mem_of_not_mem_cons hr)
    rw [State.next_getV, State.getV_setVFlag, if_neg hrF, if_neg hrx]

/-! ### LD (R130) -/

/-- Settles O12: V[X] is the one register written, with the V[Y] read before. -/
theorem copyRegister : Obligations.CopyRegister := fun x y s =>
  ⟨decodeWord_encode (i := .ldReg x y) rfl, _, rfl, s.setV_next_regEffect x (s.getV y)⟩

/-! ### OR, AND and XOR (R131 to R133) -/

theorem State.logicFlag_of_clear {s : State} (h : s.cfg.logicVfMode = .clear) : s.logicFlag = s.setV 0xF 0 := by
  simp only [State.logicFlag, h]

theorem State.logicFlag_of_preserve {s : State} (h : s.cfg.logicVfMode = .preserve) : s.logicFlag = s := by
  simp only [State.logicFlag, h]

theorem State.logicFlag_next_logicEffect (s : State) (x : Nibble) (b : Byte) :
    LogicEffect s (s.setV x b).logicFlag.next x b := by
  unfold LogicEffect
  split
  case h_1 hmode =>
    rw [State.logicFlag_of_clear (s := s.setV x b) hmode]
    exact s.setVFlag_next_regFlagEffect x b 0
  case h_2 hmode =>
    rw [State.logicFlag_of_preserve (s := s.setV x b) hmode]
    exact s.setV_next_regEffect x b

/-- Settles O13: the three write their result alike, and LOGIC_VF_MODE decides whether a clear of VF follows. -/
theorem logicOperations : Obligations.LogicOperations := fun x y s =>
  ⟨decodeWord_encode (i := .orReg x y) rfl, decodeWord_encode (i := .andReg x y) rfl,
    decodeWord_encode (i := .xorReg x y) rfl,
    ⟨_, rfl, s.logicFlag_next_logicEffect x _⟩, ⟨_, rfl, s.logicFlag_next_logicEffect x _⟩,
    ⟨_, rfl, s.logicFlag_next_logicEffect x _⟩⟩

/-! ### ADD, SUB and SUBN (R135, R136, R138) -/

theorem add_eq_ofNat (a b : Byte) : a + b = BitVec.ofNat 8 ((a.toNat + b.toNat) % 256) := by
  bv_omega

theorem sub_eq_ofNat (a b : Byte) : a - b = BitVec.ofNat 8 ((a.toNat + 256 - b.toNat) % 256) := by
  bv_omega

theorem carryFlag_eq_ite (a b : Byte) : carryFlag a b = if a.toNat + b.toNat > 255 then 1 else 0 :=
  Bool.cond_decide _ _ _

theorem noBorrowFlag_eq_ite (a b : Byte) : noBorrowFlag a b = if a.toNat ≥ b.toNat then 1 else 0 :=
  Bool.cond_decide _ _ _

theorem State.subtract_regFlagEffect (s : State) (x : Nibble) (a b : Byte) :
    RegFlagEffect s (s.setVFlag x (a - b) (noBorrowFlag a b)).next x
      (BitVec.ofNat 8 ((a.toNat + 256 - b.toNat) % 256)) (if a.toNat ≥ b.toNat then 1 else 0) := by
  rw [← sub_eq_ofNat, ← noBorrowFlag_eq_ite]
  exact s.setVFlag_next_regFlagEffect x _ _

/-- Settles O14: the model's sum and carry are those of the naturals. -/
theorem addRegistersCarry : Obligations.AddRegistersCarry := by
  intro x y s
  rw [← add_eq_ofNat, ← carryFlag_eq_ite]
  exact ⟨decodeWord_encode (i := .addReg x y) rfl, _, rfl, s.setVFlag_next_regFlagEffect x _ _⟩

/-- Settles O15: SUB and SUBN are one subtraction with its operands in either order. -/
theorem subtractRegistersNoBorrow : Obligations.SubtractRegistersNoBorrow := fun x y s =>
  ⟨decodeWord_encode (i := .subReg x y) rfl, decodeWord_encode (i := .subn x y) rfl,
    ⟨_, rfl, s.subtract_regFlagEffect x (s.getV x) (s.getV y)⟩,
    ⟨_, rfl, s.subtract_regFlagEffect x (s.getV y) (s.getV x)⟩⟩

/-! ### SHR and SHL (R137, R139) -/

theorem State.shiftSource_eq {s : State} {x y : Nibble} {src : Byte} (hx : s.cfg.shiftSrc = .vx → src = s.getV x)
    (hy : s.cfg.shiftSrc = .vy → src = s.getV y) : s.shiftSource x y = src := by
  unfold State.shiftSource
  split
  case h_1 hmode => exact (hx hmode).symm
  case h_2 hmode => exact (hy hmode).symm

theorem flagByte_eq_ofNat (c : Bool) : flagByte c = BitVec.ofNat 8 c.toNat := by
  cases c <;> rfl

/-- Bit k of a byte as a flag, by division. -/
theorem flagByte_getLsbD (b : Byte) (k : Nat) : flagByte (b.getLsbD k) = BitVec.ofNat 8 (b.toNat / 2 ^ k % 2) := by
  rw [flagByte_eq_ofNat, BitVec.getLsbD, Nat.toNat_testBit]

theorem shiftedOutRight_eq_ofNat (b : Byte) : shiftedOutRight b = BitVec.ofNat 8 (b.toNat % 2) := by
  rw [shiftedOutRight, flagByte_getLsbD, Nat.pow_zero, Nat.div_one]

theorem shiftedOutLeft_eq_ofNat (b : Byte) : shiftedOutLeft b = BitVec.ofNat 8 (b.toNat / 128) := by
  have hbit : b.toNat / 2 ^ 7 % 2 = b.toNat / 128 := by omega
  rw [shiftedOutLeft, flagByte_getLsbD, hbit]

theorem shiftRight_one_eq_ofNat (b : Byte) : b >>> 1 = BitVec.ofNat 8 (b.toNat / 2) := by
  bv_omega

theorem shiftLeft_one_eq_ofNat (b : Byte) : b <<< 1 = BitVec.ofNat 8 (b.toNat * 2 % 256) := by
  bv_omega

/-- Settles O16: SHIFT_SRC picks the byte, and halving or doubling it leaves the bit shifted out as remainder or carry. -/
theorem shiftsByOne : Obligations.ShiftsByOne := by
  intro x y s src hx hy
  obtain rfl := State.shiftSource_eq hx hy
  rw [← shiftRight_one_eq_ofNat, ← shiftedOutRight_eq_ofNat, ← shiftLeft_one_eq_ofNat, ← shiftedOutLeft_eq_ofNat]
  exact ⟨decodeWord_encode (i := .shr x y) rfl, decodeWord_encode (i := .shl x y) rfl,
    ⟨_, rfl, s.setVFlag_next_regFlagEffect x _ _⟩, ⟨_, rfl, s.setVFlag_next_regFlagEffect x _ _⟩⟩

end Sys2Proof.Machine
end

section
/-! Immediate loads and adds (43_immediate.md): the one register they write, and the sum without a flag. -/

namespace Sys2Proof.Machine

open Sys2Proof.Safety

/-- Settles O17: each writes V[X] alone, with NN or with the model's sum, which is that of the naturals mod 256. -/
theorem immediateLoadAndAdd : Obligations.ImmediateLoadAndAdd := by
  intro x nn s
  rw [← add_eq_ofNat]
  exact ⟨decodeWord_encode (i := .ldImm x nn) rfl, decodeWord_encode (i := .addImm x nn) rfl,
    ⟨_, rfl, s.setV_next_regEffect x nn⟩, ⟨_, rfl, s.setV_next_regEffect x (s.getV x + nn)⟩⟩

end Sys2Proof.Machine
end

section
/-! Memory and index (44_memory_index.md): the two checks, and what a move of I, a store of digits and a block transfer do. -/

namespace Sys2Proof.Machine

open Sys2Proof.Safety

/-! ### What a write of registers, memory and I with PC leaves alone -/

theorem frame_of_regs_memory_index_pc (s : State) (v : Vector Byte 16) (m : Memory) (i pc : Word) :
    Frame [.regs, .memory, .index, .pc] s { s with v := v, mem := m, i := i, pc := pc } := by
  intro p hp
  have hsame := part_same_refl p s
  cases p with
  | regs | memory | index | pc => exact absurd hp (by decide)
  | _ => exact hsame

/-- A part that is the same after all may leave the list of a frame. -/
theorem frame_erase {changed : List Part} {s t : State} (h : Frame changed s t) {p : Part} (hp : p.same s t) :
    Frame (changed.erase p) s t := by
  intro q hq
  by_cases hqp : q = p
  · exact hqp ▸ hp
  · exact h q fun hmem => hq ((List.mem_erase_of_ne hqp).2 hmem)

theorem frame_of_memory_index_pc (s : State) (m : Memory) (i pc : Word) :
    Frame [.memory, .index, .pc] s { s with mem := m, i := i, pc := pc } :=
  frame_erase (p := .regs) (frame_of_regs_memory_index_pc s s.v m i pc) fun _ => rfl

theorem frame_of_memory_pc (s : State) (m : Memory) (pc : Word) :
    Frame [.memory, .pc] s { s with mem := m, pc := pc } :=
  frame_erase (p := .index) (frame_of_memory_index_pc s m s.i pc) rfl

theorem frame_of_regs_index_pc (s : State) (v : Vector Byte 16) (i pc : Word) :
    Frame [.regs, .index, .pc] s { s with v := v, i := i, pc := pc } :=
  frame_erase (p := .memory) (frame_of_regs_memory_index_pc s v s.mem i pc) fun _ => rfl

theorem State.setI_next_indexEffect (s : State) (w : Word) : IndexEffect s (s.setI w).next w :=
  ⟨rfl, rfl, frame_erase (p := .memory) (frame_of_memory_index_pc s s.mem w _) fun _ => rfl⟩

/-! ### LD I and LD F (R160, R162) -/

theorem toNat_lowNibble (b : Byte) : (lowNibble b).toNat = b.toNat % 16 := by
  rw [lowNibble, BitVec.extractLsb'_toNat, Nat.shiftRight_zero]

theorem State.glyphAddress_eq_ofNat (s : State) (x : Nibble) :
    s.glyphAddress x = BitVec.ofNat 16 (s.cfg.fontBase.val + 5 * ((s.getV x).toNat % 16)) := by
  rw [State.glyphAddress, toNat_lowNibble]

/-- Settles O18: both write I alone, and the index of a glyph is the low nibble of V[X]. -/
theorem indexLoads : Obligations.IndexLoads := by
  refine ⟨fun nnn s => ?_, fun x s => ?_⟩
  · exact ⟨decodeWord_encode (i := .ldI nnn) rfl, _, rfl, s.setI_next_indexEffect _⟩
  · rw [← State.glyphAddress_eq_ofNat]
    exact ⟨decodeWord_encode (i := .ldF x) rfl, _, rfl, s.setI_next_indexEffect _⟩

/-! ### ADD I (R161) -/

theorem exec_addI_of_le {x : Nibble} {s : State} (h : s.i.toNat + (s.getV x).toNat ≤ 0x0FFF) :
    exec (.addI x) s = .next (s.setI (BitVec.ofNat 16 (s.i.toNat + (s.getV x).toNat))).next :=
  if_neg (Nat.not_lt.2 h)

theorem exec_addI_of_gt {x : Nibble} {s : State} (h : s.i.toNat + (s.getV x).toNat > 0x0FFF) :
    exec (.addI x) s = .next (s.raise .addressError (encode (.addI x))) :=
  if_pos h

/-- Settles O19: the sum is checked on naturals, before I is written. -/
theorem addToIndex : Obligations.AddToIndex := fun x s =>
  ⟨decodeWord_encode (i := .addI x) rfl, fun h => ⟨_, exec_addI_of_le h, s.setI_next_indexEffect _⟩,
    fun h => ⟨_, exec_addI_of_gt h, s.raise_faultEffect _ _⟩⟩

/-! ### The checks (R159) -/

section

variable {s : State} {n : Nat} {isWrite : Bool}

theorem accessFaults_iff_not_accessOk : s.accessFaults s.i n isWrite = true ↔ ¬ AccessOk s n isWrite := by
  rw [AccessOk, ← State.accessFaults_eq_false, Bool.not_eq_false]

/-- FX55 and FX65 check the I they leave too (R164, R165). -/
theorem blockFaults_iff {newI : Nat} :
    (s.accessFaults s.i n isWrite || decide (newI > 0x0FFF)) = true ↔
      ¬ (AccessOk s n isWrite ∧ newI ≤ 0x0FFF) := by
  rw [Bool.or_eq_true, accessFaults_iff_not_accessOk, decide_eq_true_eq, Classical.not_and_iff_not_or_not, Nat.not_le]

/-- A checked block ends at or below 0xFFF. -/
theorem blockEnd_le_memSize (h : AccessOk s (n + 1) isWrite) : s.i.toNat + (n + 1) ≤ Config.memSize := by
  obtain ⟨htop, -⟩ := h
  rw [Config.memSize]
  omega

end

/-! ### LD B (R163) -/

theorem toNat_bcdDigit_zero (v : Byte) : (bcdDigit v 0).toNat = v.toNat / 100 := by
  rw [bcdDigit, BitVec.toNat_ofNat]
  omega

theorem toNat_bcdDigit_one (v : Byte) : (bcdDigit v 1).toNat = v.toNat / 10 % 10 := by
  rw [bcdDigit, BitVec.toNat_ofNat]
  omega

theorem toNat_bcdDigit_two (v : Byte) : (bcdDigit v 2).toNat = v.toNat % 10 := by
  change (BitVec.ofNat 8 (v.toNat % 10)).toNat = v.toNat % 10
  rw [BitVec.toNat_ofNat]
  omega

/-- The state after the three writes of LD B, VX. -/
def State.storeDigits (s : State) (x : Nibble) : State :=
  ((s.writeByte s.i.toNat (bcdDigit (s.getV x) 0)).writeByte (s.i.toNat + 1) (bcdDigit (s.getV x) 1)).writeByte
    (s.i.toNat + 2) (bcdDigit (s.getV x) 2)

theorem exec_ldB_of_accessOk {x : Nibble} {s : State} (h : AccessOk s 3 true) :
    exec (.ldB x) s = .next (s.storeDigits x).next :=
  if_neg fun hfaults => accessFaults_iff_not_accessOk.1 hfaults h

theorem exec_ldB_of_not_accessOk {x : Nibble} {s : State} (h : ¬ AccessOk s 3 true) :
    exec (.ldB x) s = .next (s.raise .addressError (encode (.ldB x))) :=
  if_pos (accessFaults_iff_not_accessOk.2 h)

/-- No write of a digit reaches the others, and each is into a canonical memory, so each digit reads back. -/
theorem State.storeDigits_readByte {s : State} (hm : MemoryCanonical s) (h : AccessOk s 3 true) (x : Nibble) :
    (s.storeDigits x).readByte s.i.toNat = bcdDigit (s.getV x) 0 ∧
      (s.storeDigits x).readByte (s.i.toNat + 1) = bcdDigit (s.getV x) 1 ∧
      (s.storeDigits x).readByte (s.i.toNat + 2) = bcdDigit (s.getV x) 2 := by
  have hend := blockEnd_le_memSize h
  have hm1 := State.wf_writeByte hm (a := s.i.toNat) (by omega) (bcdDigit (s.getV x) 0)
  have hm2 := State.wf_writeByte hm1 (a := s.i.toNat + 1) (by omega) (bcdDigit (s.getV x) 1)
  unfold State.storeDigits
  refine ⟨?hundreds, ?tens, ?ones⟩
  case hundreds =>
    rw [State.readByte_writeByte_other _ _ (by omega), State.readByte_writeByte_other _ _ (by omega),
      State.readByte_writeByte_same hm]
  case tens => rw [State.readByte_writeByte_other _ _ (by omega), State.readByte_writeByte_same hm1]
  case ones => rw [State.readByte_writeByte_same hm2]

theorem State.storeDigits_bytesKept (s : State) (x : Nibble) : BytesKept s.i.toNat 3 s (s.storeDigits x) := by
  intro b hb
  rw [State.storeDigits, State.readByte_writeByte_other _ _ (by omega), State.readByte_writeByte_other _ _ (by omega),
    State.readByte_writeByte_other _ _ (by omega)]

theorem State.storeDigits_eq (s : State) (x : Nibble) : ∃ m, s.storeDigits x = { s with mem := m } := by
  simp only [State.storeDigits, State.writeByte]
  exact ⟨_, rfl⟩

theorem State.storeDigits_next_pc_frame (s : State) (x : Nibble) :
    (s.storeDigits x).next.pc = s.pc + 2 ∧ Frame [.memory, .pc] s (s.storeDigits x).next := by
  obtain ⟨m, hm⟩ := s.storeDigits_eq x
  rw [hm]
  exact ⟨rfl, frame_of_memory_pc s m _⟩

/-- Settles O20: the check comes before the three writes, which read back as the digits and reach no other byte. -/
theorem storeDecimalDigits : Obligations.StoreDecimalDigits := by
  intro x s
  refine ⟨decodeWord_encode (i := .ldB x) rfl, fun hm hok => ?_, fun hfaults => ?_⟩
  · obtain ⟨hhundreds, htens, hones⟩ := State.storeDigits_readByte hm hok x
    obtain ⟨hpc, hframe⟩ := s.storeDigits_next_pc_frame x
    refine ⟨_, exec_ldB_of_accessOk hok, ?hundreds, ?tens, ?ones, s.storeDigits_bytesKept x, hpc, hframe⟩
    case hundreds => rw [State.next_readByte, hhundreds, toNat_bcdDigit_zero]
    case tens => rw [State.next_readByte, htens, toNat_bcdDigit_one]
    case ones => rw [State.next_readByte, hones, toNat_bcdDigit_two]
  · exact ⟨_, exec_ldB_of_not_accessOk hfaults, s.raise_faultEffect _ _⟩

/-! ### LD [I] and LD VX, [I] (R164, R165) -/

section

variable {x : Nibble} {s : State}

theorem toNat_ofNat_loadStoreIndex (h : loadStoreIndex s x ≤ 0x0FFF) :
    (BitVec.ofNat 16 (loadStoreIndex s x)).toNat = loadStoreIndex s x := by
  rw [BitVec.toNat_ofNat, Nat.mod_eq_of_lt (by omega)]

/-- The model's advancedI is loadStoreIndex by definition. -/
theorem exec_storeRegs_of_ok (h : AccessOk s (x.toNat + 1) true ∧ loadStoreIndex s x ≤ 0x0FFF) :
    exec (.storeRegs x) s =
      .next ((State.storeFrom s.i.toNat (x.toNat + 1) s).setI (BitVec.ofNat 16 (loadStoreIndex s x))).next :=
  if_neg fun hfaults => blockFaults_iff.1 hfaults h

theorem exec_storeRegs_of_not_ok (h : ¬ (AccessOk s (x.toNat + 1) true ∧ loadStoreIndex s x ≤ 0x0FFF)) :
    exec (.storeRegs x) s = .next (s.raise .addressError (encode (.storeRegs x))) :=
  if_pos (blockFaults_iff.2 h)

theorem exec_loadRegs_of_ok (h : AccessOk s (x.toNat + 1) false ∧ loadStoreIndex s x ≤ 0x0FFF) :
    exec (.loadRegs x) s =
      .next ((State.loadFrom s.i.toNat (x.toNat + 1) s).setI (BitVec.ofNat 16 (loadStoreIndex s x))).next :=
  if_neg fun hfaults => blockFaults_iff.1 hfaults h

theorem exec_loadRegs_of_not_ok (h : ¬ (AccessOk s (x.toNat + 1) false ∧ loadStoreIndex s x ≤ 0x0FFF)) :
    exec (.loadRegs x) s = .next (s.raise .addressError (encode (.loadRegs x))) :=
  if_pos (blockFaults_iff.2 h)

end

theorem State.storeFrom_next_pc_frame (a n : Nat) (s : State) (w : Word) :
    ((State.storeFrom a n s).setI w).next.pc = s.pc + 2 ∧
      Frame [.memory, .index, .pc] s ((State.storeFrom a n s).setI w).next := by
  obtain ⟨m, hm⟩ := State.storeFrom_eq a n s
  rw [hm]
  exact ⟨rfl, frame_of_memory_index_pc s m w _⟩

theorem State.loadFrom_next_pc_frame (a n : Nat) (s : State) (w : Word) :
    ((State.loadFrom a n s).setI w).next.pc = s.pc + 2 ∧
      Frame [.regs, .index, .pc] s ((State.loadFrom a n s).setI w).next := by
  obtain ⟨v, hv⟩ := State.loadFrom_eq a n s
  rw [hv]
  exact ⟨rfl, frame_of_regs_index_pc s v w _⟩

/-- Byte a + j of a stored block is V[j], with j as the name of a register. -/
theorem State.storeFrom_readByte_reg {s : State} (hm : MemoryCanonical s) {a n : Nat} (h : a + n ≤ Config.memSize)
    {j : Nibble} (hj : j.toNat < n) : (State.storeFrom a n s).readByte (a + j.toNat) = s.getV j := by
  rw [State.storeFrom_readByte_inside hm h hj, BitVec.ofNat_toNat, BitVec.setWidth_eq]

/-- Settles O21: both checks come before the first write, the block holds V0..VX, and I is moved within 0x0FFF. -/
theorem storeRegistersAtIndex : Obligations.StoreRegistersAtIndex := by
  intro x s
  refine ⟨decodeWord_encode (i := .storeRegs x) rfl, fun hm hok hi => ?_, fun hfaults => ?_⟩
  · obtain ⟨hpc, hframe⟩ := State.storeFrom_next_pc_frame s.i.toNat (x.toNat + 1) s _
    exact ⟨_, exec_storeRegs_of_ok ⟨hok, hi⟩,
      fun j hj => State.storeFrom_readByte_reg hm (blockEnd_le_memSize hok) (Nat.lt_succ_of_le hj),
      fun b => State.storeFrom_readByte_outside s.i.toNat (x.toNat + 1) s, toNat_ofNat_loadStoreIndex hi, hpc, hframe⟩
  · exact ⟨_, exec_storeRegs_of_not_ok hfaults, s.raise_faultEffect _ _⟩

/-- Settles O22: as the store, with the registers up to X as what is written and no bound from below on I. -/
theorem loadRegistersFromIndex : Obligations.LoadRegistersFromIndex := by
  intro x s
  refine ⟨decodeWord_encode (i := .loadRegs x) rfl, fun hok hi => ?_, fun hfaults => ?_⟩
  · obtain ⟨hpc, hframe⟩ := State.loadFrom_next_pc_frame s.i.toNat (x.toNat + 1) s _
    refine ⟨_, exec_loadRegs_of_ok ⟨hok, hi⟩, fun j => ?_, toNat_ofNat_loadStoreIndex hi, hpc, hframe⟩
    rw [State.next_getV, State.setI_getV, State.loadFrom_getV _ (by omega)]
    exact ite_congr (propext Nat.lt_succ_iff) (fun _ => rfl) (fun _ => rfl)
  · exact ⟨_, exec_loadRegs_of_not_ok hfaults, s.raise_faultEffect _ _⟩

end Sys2Proof.Machine
end

section
/-! Display (45_display.md): a drawn sprite pixel by pixel, and that only a drawn sprite leaves display_changed set. -/

namespace Sys2Proof.Machine

open Sys2Proof.Safety

/-! ### What a write of registers, screen and display_changed with PC leaves alone -/

theorem frame_of_regs_screen_displayFlag_pc (s : State) (v : Vector Byte 16) (fb : Vector (BitVec 64) 32) (c : Bool)
    (pc : Word) :
    Frame [.regs, .screen, .displayFlag, .pc] s { s with v := v, fb := fb, displayChanged := c, pc := pc } := by
  intro p hp
  have hsame := part_same_refl p s
  cases p with
  | regs | screen | displayFlag | pc => exact absurd hp (by decide)
  | _ => exact hsame

/-! ### CLS (R180) -/

theorem State.setFb_next_frame (s : State) (fb : Vector (BitVec 64) 32) : Frame [.screen, .pc] s (s.setFb fb).next :=
  frame_erase (p := .displayFlag) (frame_erase (p := .regs)
    (frame_of_regs_screen_displayFlag_pc s s.v fb s.displayChanged _) fun _ => rfl) rfl

/-- Settles O23: the frame buffer of zero rows has no pixel on, and CLS writes it and PC alone. -/
theorem clearScreen : Obligations.ClearScreen := fun s =>
  ⟨decodeWord_encode (i := .cls) rfl, _, rfl, pixelOf_replicate_zero, rfl, s.setFb_next_frame _⟩

/-! ### The check of DRW (R181, R185) -/

/-- The state after a sprite of n rows is drawn with its top left corner at (x0, y0). -/
def State.drawAt (s : State) (x0 y0 n : Nat) : State :=
  let d := s.drawRows x0 y0 n { fb := s.fb, collide := false }
  ((s.setFb d.fb).setV 0xF (flagByte d.collide)).signalDisplay.next

theorem drawFaults_iff_not_spriteInMemory {s : State} {n : Nat} :
    (decide (n > 0) && s.accessFaults s.i n false) = true ↔ ¬ SpriteInMemory s n := by
  have hread : AccessOk s n false ↔ s.i.toNat + n - 1 ≤ 0xFFF := and_iff_left nofun
  rw [Bool.and_eq_true, decide_eq_true_eq, accessFaults_iff_not_accessOk, hread, SpriteInMemory, not_or,
    gt_iff_lt, Nat.pos_iff_ne_zero]

section

variable {x y n : Nibble} {s : State}

theorem exec_drw_of_spriteInMemory (h : SpriteInMemory s n.toNat) :
    exec (.drw x y n) s = .next (s.drawAt ((s.getV x).toNat % 64) ((s.getV y).toNat % 32) n.toNat) :=
  if_neg fun hfaults => drawFaults_iff_not_spriteInMemory.1 hfaults h

theorem exec_drw_of_not_spriteInMemory (h : ¬ SpriteInMemory s n.toNat) :
    exec (.drw x y n) s = .next (s.raise .addressError (encode (.drw x y n))) :=
  if_pos (drawFaults_iff_not_spriteInMemory.2 h)

end

/-! ### A drawn sprite (R182 to R184) -/

theorem flagByte_eq_one_iff (c : Bool) : flagByte c = 1 ↔ c = true := by
  cases c <;> decide

theorem flagByte_eq_one_or_zero (c : Bool) : flagByte c = 1 ∨ flagByte c = 0 := by
  cases c <;> decide

section

variable (s : State) (x0 y0 n : Nat)

theorem State.drawAt_pixel (px : Nat) {py : Nat} (hpy : py < 32) :
    (s.drawAt x0 y0 n).pixel px py = true ↔ ¬ (s.pixel px py = true ↔ SpriteLit s x0 y0 n px py) :=
  drawRows_pixel s x0 y0 n _ px hpy

theorem State.drawAt_getV_VF :
    (s.drawAt x0 y0 n).getV 0xF = flagByte (s.drawRows x0 y0 n { fb := s.fb, collide := false }).collide := by
  rw [State.drawAt, State.next_getV, State.signalDisplay_getV, State.getV_setV, if_pos rfl]

theorem State.drawAt_getV_VF_eq_one_or_zero : (s.drawAt x0 y0 n).getV 0xF = 1 ∨ (s.drawAt x0 y0 n).getV 0xF = 0 :=
  s.drawAt_getV_VF x0 y0 n ▸ flagByte_eq_one_or_zero _

theorem State.drawAt_getV_VF_eq_one_iff :
    (s.drawAt x0 y0 n).getV 0xF = 1 ↔
      ∃ px py, px < 64 ∧ py < 32 ∧ s.pixel px py = true ∧ SpriteLit s x0 y0 n px py := by
  rw [State.drawAt_getV_VF, flagByte_eq_one_iff, drawRows_collide]
  exact or_iff_right Bool.false_ne_true

theorem State.drawAt_regsKept : RegsKept [0xF] s (s.drawAt x0 y0 n) := by
  intro r hr
  rw [State.drawAt, State.next_getV, State.signalDisplay_getV, State.getV_setV, if_neg (List.ne_of_not_mem_cons hr),
    State.setFb_getV]

theorem State.drawAt_frame : Frame [.regs, .screen, .displayFlag, .pc] s (s.drawAt x0 y0 n) :=
  frame_of_regs_screen_displayFlag_pc s _ _ true _

end

/-- Settles O24: the check comes before the first row, and the corner is read before VF is written. -/
theorem drawTogglesSpritePixels : Obligations.DrawTogglesSpritePixels := by
  intro x y n s
  refine ⟨decodeWord_encode (i := .drw x y n) rfl, fun hin => ?drawn, fun hout => ?fault⟩
  case drawn =>
    exact ⟨_, exec_drw_of_spriteInMemory hin, fun px _ _ hpy => s.drawAt_pixel _ _ _ px hpy,
      s.drawAt_getV_VF_eq_one_or_zero _ _ _, s.drawAt_getV_VF_eq_one_iff _ _ _, s.drawAt_regsKept _ _ _, rfl, rfl,
      s.drawAt_frame _ _ _⟩
  case fault => exact ⟨_, exec_drw_of_not_spriteInMemory hout, s.raise_faultEffect _ _⟩

/-- Settles O25: a sprite without rows needs no memory, and drawing it leaves the screen as it is and sets no collision. -/
theorem drawNoRows : Obligations.DrawNoRows := fun _ _ s =>
  ⟨_, exec_drw_of_spriteInMemory (.inl rfl), s.drawAt_getV_VF _ _ 0, s.drawAt_regsKept _ _ _, rfl, rfl,
    frame_erase (p := .screen) (s.drawAt_frame _ _ 0) rfl⟩

/-! ### The same sprite drawn twice (R186) -/

section

variable (s : State) (x0 y0 n : Nat)

/-- Drawing writes neither memory nor I, so the sprite is the same afterwards. -/
theorem spriteLit_drawAt (px py : Nat) :
    SpriteLit (s.drawAt x0 y0 n) x0 y0 n px py ↔ SpriteLit s x0 y0 n px py :=
  Iff.rfl

theorem State.drawAt_pixel_of_lit {px py : Nat} (hpy : py < 32) (hlit : SpriteLit s x0 y0 n px py) :
    (s.drawAt x0 y0 n).pixel px py = true ↔ s.pixel px py = false := by
  rw [State.drawAt_pixel s x0 y0 n px hpy, iff_true_right hlit, Bool.not_eq_true]

/-- Each lit pixel is flipped twice and every other pixel not at all. -/
theorem State.drawAt_drawAt_pixel (px : Nat) {py : Nat} (hpy : py < 32) :
    ((s.drawAt x0 y0 n).drawAt x0 y0 n).pixel px py = s.pixel px py := by
  rw [Bool.eq_iff_iff, State.drawAt_pixel _ x0 y0 n px hpy, spriteLit_drawAt, State.drawAt_pixel s x0 y0 n px hpy]
  by_cases hlit : SpriteLit s x0 y0 n px py <;> simp [hlit]

theorem State.drawAt_drawAt_getV_VF_eq_one_iff :
    ((s.drawAt x0 y0 n).drawAt x0 y0 n).getV 0xF = 1 ↔
      ∃ px py, px < 64 ∧ py < 32 ∧ s.pixel px py = false ∧ SpriteLit s x0 y0 n px py := by
  rw [State.drawAt_getV_VF_eq_one_iff]
  refine exists₂_congr fun px py => and_congr_right fun _ => and_congr_right fun hpy => ?_
  rw [spriteLit_drawAt]
  exact and_congr_left fun hlit => s.drawAt_pixel_of_lit x0 y0 n hpy hlit

end

/-- Settles O26: the two draws are of one sprite at one corner. -/
theorem drawTwiceRestores : Obligations.DrawTwiceRestores := by
  intro x y n s t u hin ht hu hx hy
  obtain rfl := Host.Outcome.next.inj ((exec_drw_of_spriteInMemory hin).symm.trans ht)
  have hin' : SpriteInMemory (s.drawAt ((s.getV x).toNat % 64) ((s.getV y).toNat % 32) n.toNat) n.toNat := hin
  rw [exec_drw_of_spriteInMemory hin', hx, hy] at hu
  obtain rfl := Host.Outcome.next.inj hu
  exact ⟨fun px _ _ hpy => s.drawAt_drawAt_pixel _ _ _ px hpy, s.drawAt_drawAt_getV_VF_eq_one_iff _ _ _⟩

/-! ### What leaves display_changed alone (R187) -/

section

variable {p : Part} {s t u : State} {w : Word}

theorem part_same_of_next (h : (.next u : Host.Outcome State Fault Refusal) = .next t) (hu : p.same s u) : p.same s t :=
  Host.Outcome.next.inj h ▸ hu

/-- A checked instruction that fails its check raises a fault, which keeps every part but the fault record and the report. -/
theorem part_same_of_check (hp : p ∉ [.faultRecord, .report]) {c : Prop} [Decidable c]
    (h : (if c then .next (s.raise .addressError w) else .next u : Host.Outcome State Fault Refusal) = .next t)
    (hu : p.same s u) : p.same s t := by
  obtain ⟨-, -, -, -, hframe⟩ := s.raise_faultEffect .addressError w
  split at h
  · exact part_same_of_next h (hframe p hp)
  · exact part_same_of_next h hu

end

theorem State.logicFlag_displayFlag (s : State) : Part.displayFlag.same s s.logicFlag := by
  unfold State.logicFlag
  split <;> rfl

theorem State.storeFrom_displayFlag (a n : Nat) (s : State) : Part.displayFlag.same s (State.storeFrom a n s) := by
  obtain ⟨m, hm⟩ := State.storeFrom_eq a n s
  rw [hm]
  rfl

theorem State.loadFrom_displayFlag (a n : Nat) (s : State) : Part.displayFlag.same s (State.loadFrom a n s) := by
  obtain ⟨v, hv⟩ := State.loadFrom_eq a n s
  rw [hv]
  rfl

theorem State.push_displayFlag {s u : State} {w : Word} (h : s.push w = some u) : Part.displayFlag.same s u := by
  obtain ⟨_, rfl⟩ := State.push_eq_some h
  rfl

theorem State.pop_displayFlag {s u : State} {w : Word} (h : s.pop = some (w, u)) : Part.displayFlag.same s u := by
  obtain ⟨_, _, _, rfl⟩ := State.pop_eq_some h
  rfl

theorem exec_displayFlag_of_ne_drw {i : Instr} {s t : State} (h : exec i s = .next t)
    (hi : ∀ x y n, i ≠ .drw x y n) : Part.displayFlag.same s t := by
  cases i with
  | drw x y n => exact absurd rfl (hi x y n)
  | sys nnn => obtain rfl | rfl := execSys_cases h <;> rfl
  | call nnn =>
    obtain ⟨u, hp, rfl⟩ | rfl := execCall_cases h
    · exact State.push_displayFlag (u := u) hp
    · rfl
  | ret =>
    obtain ⟨target, u, hp, rfl⟩ | rfl := execRet_cases h
    · exact State.pop_displayFlag (u := u) hp
    · rfl
  | storeRegs x => exact part_same_of_check (by decide) h (State.storeFrom_displayFlag _ _ s)
  | loadRegs x => exact part_same_of_check (by decide) h (State.loadFrom_displayFlag _ _ s)
  | addI | ldB => exact part_same_of_check (p := .displayFlag) (by decide) h rfl
  | orReg x y | andReg x y | xorReg x y => exact part_same_of_next h (s.setV x _).logicFlag_displayFlag
  | cls | jp | seImm | sneImm | seReg | sneReg | jpOffset | ldImm | addImm | ldReg | addReg | subReg | shr | subn | shl
  | ldI | ldF | rnd | skp | sknp | ldVxK | ldVxDt | ldDtVx | ldStVx =>
    exact part_same_of_next (p := .displayFlag) h rfl

/-! ### What sets display_changed (R187) -/

/-- From a state with display_changed 0, as STEP gives one, an instruction sets it exactly when it draws. -/
theorem exec_displayChanged_iff {i : Instr} {s t : State} (h : exec i s = .next t) (hs : s.displayChanged = false) :
    t.displayChanged = true ↔ ∃ x y n, i = .drw x y n ∧ SpriteInMemory s n.toNat := by
  by_cases hi : ∃ x y n, i = .drw x y n
  · obtain ⟨x, y, n, rfl⟩ := hi
    by_cases hin : SpriteInMemory s n.toNat
    · obtain rfl := Host.Outcome.next.inj ((exec_drw_of_spriteInMemory hin).symm.trans h)
      exact iff_of_true rfl ⟨x, y, n, rfl, hin⟩
    · obtain rfl := Host.Outcome.next.inj ((exec_drw_of_not_spriteInMemory hin).symm.trans h)
      refine iff_of_false (ne_true_of_eq_false hs) ?_
      rintro ⟨_, _, _, hdrw, hin'⟩
      cases hdrw
      exact hin hin'
  · have hkept : t.displayChanged = s.displayChanged :=
      exec_displayFlag_of_ne_drw h fun x y n he => hi ⟨x, y, n, he⟩
    refine iff_of_false (ne_true_of_eq_false (hkept.trans hs)) ?_
    rintro ⟨x, y, n, he, -⟩
    exact hi ⟨x, y, n, he⟩

/-- A STEP that is halted, polls or faults in its fetch leaves the 0 it began with, and fetches no DXYN. -/
theorem listedStep_displayChanged_iff {s t : State} {k : Word} {b : Byte} {rest : List HostCommand}
    (hp : s.pending = .step k b :: rest) (h : step s = .next t) :
    t.displayChanged = true ↔
      Fetches s ∧ ∃ x y n, decodeWord (wordAtPc s) = .instr (.drw x y n) ∧ SpriteInMemory s n.toNat := by
  obtain ⟨hf, rfl⟩ | ⟨-, hw, rfl⟩ | ⟨-, -, hpc, rfl⟩ | ⟨-, w, hd, rfl⟩ | ⟨hF, i, hd, hi⟩ := listedStep_cases hp h
  · exact iff_of_false Bool.false_ne_true fun ⟨⟨hf', _, _⟩, _⟩ => hf hf'
  · have hkept := (stepStart s k b rest).waitPoll_frame .displayFlag (by decide)
    exact iff_of_false (ne_true_of_eq_false hkept) fun ⟨⟨_, hw', _⟩, _⟩ => Bool.false_ne_true (hw'.symm.trans hw)
  · exact iff_of_false Bool.false_ne_true fun ⟨⟨_, _, hpc'⟩, _⟩ => Nat.not_lt.2 hpc' hpc
  · exact iff_of_false Bool.false_ne_true fun ⟨_, _, _, _, hd', _⟩ => nomatch hd.symm.trans hd'
  · rw [exec_displayChanged_iff hi rfl, and_iff_right hF, hd]
    simp only [Decoded.instr.injEq]
    rfl

theorem State.loadCommand_displayChanged (s : State) (rom : List Byte) :
    (s.loadCommand rom).displayChanged = false := by
  obtain ⟨hfresh, -⟩ | hraise := s.loadCommand_cases rom
  · obtain ⟨-, -, -, -, -, -, -, -, -, -, -, hdisplay, -⟩ := hfresh
    exact hdisplay
  · rw [hraise]
    rfl

/-- A command that is not a STEP begins with display_changed 0 and executes no instruction. -/
theorem performCommand_displayChanged_of_not_step {c : HostCommand} {s t : State} (hc : ∀ k b, c ≠ .step k b)
    (h : performCommand c s = .next t) : t.displayChanged = false := by
  cases c with
  | step k b => exact absurd rfl (hc k b)
  | powerOn | reset => exact Host.Outcome.next.inj h ▸ rfl
  | load rom => exact Host.Outcome.next.inj h ▸ s.loadCommand_displayChanged rom
  | tick =>
    obtain ⟨dt, st, htick⟩ := s.tick_eq
    obtain rfl := Host.Outcome.next.inj h
    rw [htick]
    rfl

/-- Settles O51: of the commands only a STEP executes an instruction, and of the instructions only a drawn DXYN sets the flag. -/
theorem displayChangedByDrawOnly : Obligations.DisplayChangedByDrawOnly := by
  intro s t c rest hp h
  by_cases hc : ∃ k b, c = .step k b
  · rw [and_iff_right hc]
    obtain ⟨k, b, rfl⟩ := hc
    exact listedStep_displayChanged_iff hp h
  · have hclear : t.displayChanged = false :=
      performCommand_displayChanged_of_not_step (fun k b he => hc ⟨k, b, he⟩) ((step_of_pending_cons hp).symm.trans h)
    exact iff_of_false (ne_true_of_eq_false hclear) fun ⟨hstep, _⟩ => hc hstep

end Sys2Proof.Machine
end

section
/-! Random numbers (46_random.md): what CXNN does with the random byte, and that no other instruction reads it. -/

namespace Sys2Proof.Machine

open Sys2Proof.Safety

/-! ### RND (R201) -/

/-- No bit outside the mask is left (R201). -/
theorem and_mask_and_not_mask (b nn : Byte) : b &&& nn &&& ~~~nn = 0 := by
  rw [BitVec.and_assoc, BitVec.and_not_self]
  exact BitVec.and_zero

/-- Settles O27: V[X] is the one register written, with the masked byte. -/
theorem randomByteMasked : Obligations.RandomByteMasked := by
  intro x nn s
  obtain ⟨hresult, hkept⟩ := s.setV_next_regEffect x (s.rand &&& nn)
  refine ⟨decodeWord_encode (i := .rnd x nn) rfl, _, rfl, ⟨hresult, hkept⟩, ?_⟩
  rw [hresult]
  exact and_mask_and_not_mask s.rand nn

/-! ### Other values on the input ports (R91, R101) -/

/-- An outcome with other values on the input ports of its next state. -/
def sampleOutcome (k : Word) (b : Byte) :
    Host.Outcome State Fault Refusal → Host.Outcome State Fault Refusal
  | .next t => .next (t.sample k b)
  | .fault r => .fault r
  | .refused r => .refused r

section

variable (k : Word) (b : Byte)

theorem State.logicFlag_sample (s : State) : (s.sample k b).logicFlag = s.logicFlag.sample k b := by
  cases hmode : s.cfg.logicVfMode with
  | clear => rw [State.logicFlag_of_clear hmode, State.logicFlag_of_clear (s := s.sample k b) hmode]; rfl
  | preserve => rw [State.logicFlag_of_preserve hmode, State.logicFlag_of_preserve (s := s.sample k b) hmode]

theorem State.storeFrom_sample (a n : Nat) (s : State) :
    State.storeFrom a n (s.sample k b) = (State.storeFrom a n s).sample k b := by
  induction n with
  | zero => rfl
  | succ n ih => simp only [State.storeFrom, ih]; rfl

theorem State.loadFrom_sample (a n : Nat) (s : State) :
    State.loadFrom a n (s.sample k b) = (State.loadFrom a n s).sample k b := by
  induction n with
  | zero => rfl
  | succ n ih => simp only [State.loadFrom, ih]; rfl

theorem State.drawRows_sample (s : State) (x0 y0 n : Nat) (d : Canvas) :
    (s.sample k b).drawRows x0 y0 n d = s.drawRows x0 y0 n d := by
  induction n with
  | zero => rfl
  | succ n ih => simp only [State.drawRows, ih]; rfl

/-! ### The instructions whose outcome hangs on a parameter, the stack or a check -/

/-- A checked instruction whose check reads no port. -/
theorem sampleOutcome_check {c : Prop} [Decidable c] {raised done raised' done' : State}
    (hraised : raised' = raised.sample k b) (hdone : done' = done.sample k b) :
    (if c then .next raised' else .next done') = sampleOutcome k b (if c then .next raised else .next done) := by
  rw [hraised, hdone, apply_ite (sampleOutcome k b)]
  rfl

theorem execSys_sample (nnn : Addr) (s : State) :
    exec (.sys nnn) (s.sample k b) = sampleOutcome k b (exec (.sys nnn) s) := by
  cases hmode : s.cfg.sysMode with
  | ignore => rw [exec_sys_of_ignore nnn hmode, exec_sys_of_ignore nnn (s := s.sample k b) hmode]; rfl
  | fault => rw [exec_sys_of_fault nnn hmode, exec_sys_of_fault nnn (s := s.sample k b) hmode]; rfl

theorem execCall_sample (nnn : Addr) (s : State) :
    exec (.call nnn) (s.sample k b) = sampleOutcome k b (exec (.call nnn) s) := by
  by_cases hsp : s.sp.val < 16
  · rw [exec_call_of_lt nnn hsp, exec_call_of_lt nnn (s := s.sample k b) hsp]; rfl
  · have hfull : s.sp.val = 16 := by omega
    rw [exec_call_of_full nnn hfull, exec_call_of_full nnn (s := s.sample k b) hfull]; rfl

theorem execRet_sample (s : State) : exec .ret (s.sample k b) = sampleOutcome k b (exec .ret s) := by
  by_cases hsp : s.sp.val = 0
  · rw [exec_ret_of_empty hsp, exec_ret_of_empty (s := s.sample k b) hsp]; rfl
  · obtain ⟨j, hj⟩ : ∃ j, j + 1 = s.sp.val := ⟨s.sp.val - 1, by omega⟩
    have hslot : j < 16 := by omega
    rw [exec_ret_of_top hslot hj, exec_ret_of_top (s := s.sample k b) hslot hj]; rfl

theorem execDrw_sample (x y n : Nibble) (s : State) :
    exec (.drw x y n) (s.sample k b) = sampleOutcome k b (exec (.drw x y n) s) := by
  refine sampleOutcome_check k b rfl ?_
  rw [State.drawRows_sample]
  rfl

theorem execStoreRegs_sample (x : Nibble) (s : State) :
    exec (.storeRegs x) (s.sample k b) = sampleOutcome k b (exec (.storeRegs x) s) :=
  sampleOutcome_check k b rfl
    (congrArg (fun u => (State.setI u (BitVec.ofNat 16 (s.advancedI x))).next) (State.storeFrom_sample k b _ _ s))

theorem execLoadRegs_sample (x : Nibble) (s : State) :
    exec (.loadRegs x) (s.sample k b) = sampleOutcome k b (exec (.loadRegs x) s) :=
  sampleOutcome_check k b rfl
    (congrArg (fun u => (State.setI u (BitVec.ofNat 16 (s.advancedI x))).next) (State.loadFrom_sample k b _ _ s))

end

/-! ### What reads the input ports -/

/-- Other values on the ports an instruction does not read reach its outcome as those values on the ports, and no further:
the keypad is read by EX9E, EXA1 and FX0A, and the random byte by CXNN. -/
theorem exec_sample {i : Instr} {s : State} {k : Word} {b : Byte}
    (hkeys : k = s.keys ∨ ∀ x, i ≠ .skp x ∧ i ≠ .sknp x ∧ i ≠ .ldVxK x)
    (hrand : b = s.rand ∨ ∀ x nn, i ≠ .rnd x nn) :
    exec i (s.sample k b) = sampleOutcome k b (exec i s) := by
  cases i with
  | rnd x nn =>
    obtain rfl | hne := hrand
    · rfl
    · exact absurd rfl (hne x nn)
  | skp x | sknp x | ldVxK x =>
    obtain rfl | hne := hkeys
    · rfl
    · obtain ⟨hskp, hsknp, hldVxK⟩ := hne x
      contradiction
  | sys nnn => exact execSys_sample k b nnn s
  | call nnn => exact execCall_sample k b nnn s
  | ret => exact execRet_sample k b s
  | drw x y n => exact execDrw_sample k b x y n s
  | storeRegs x => exact execStoreRegs_sample k b x s
  | loadRegs x => exact execLoadRegs_sample k b x s
  | addI | ldB => exact sampleOutcome_check k b rfl rfl
  | orReg x y | andReg x y | xorReg x y =>
    exact congrArg (fun u => Host.Outcome.next (State.next u)) (State.logicFlag_sample k b (s.setV x _))
  | cls | jp | seImm | sneImm | seReg | sneReg | jpOffset | ldImm | addImm | ldReg | addReg | subReg | shr | subn | shl
  | ldI | ldF | ldVxDt | ldDtVx | ldStVx => rfl

/-- Sampling the values the ports already have changes nothing, so an instruction leaves them as they are. -/
theorem exec_ports {i : Instr} {s t : State} (h : exec i s = .next t) : Part.ports.same s t := by
  have hsame : exec i s = sampleOutcome s.keys s.rand (exec i s) := exec_sample (.inl rfl) (.inl rfl)
  rw [h] at hsame
  have ht : t = t.sample s.keys s.rand := Host.Outcome.next.inj hsame
  rw [ht]
  exact ⟨rfl, rfl⟩

/-- Settles O52: with the keypad as it is, another random byte reaches the next state as that byte on the port. -/
theorem randomByteReadByRndOnly : Obligations.RandomByteReadByRndOnly := by
  intro i s t b hi h
  obtain ⟨hkeys, -⟩ := exec_ports h
  have hexec : exec i (s.sample s.keys b) = sampleOutcome s.keys b (exec i s) := exec_sample (.inl rfl) (.inr hi)
  rw [h] at hexec
  calc exec i { s with rand := b } = .next (t.sample s.keys b) := hexec
    _ = .next { t with rand := b } := by rw [← hkeys]; rfl

end Sys2Proof.Machine
end

section
/-! The keypad (47_keypad.md): the key that a skip tests, the start of the key wait, and that no other instruction reads the
keypad. -/

namespace Sys2Proof.Machine

open Sys2Proof.Safety

/-! ### SKP and SKNP (R205, R206) -/

theorem State.keyDown_eq (s : State) (x : Nibble) : s.keyDown x = s.keys.getLsbD ((s.getV x).toNat % 16) := by
  rw [State.keyDown, toNat_lowNibble]

/-- Settles O28: the tests are whether the key of the low nibble is down and whether it is up, and a skip writes PC alone. -/
theorem keySkips : Obligations.KeySkips := by
  intro x s
  rw [← State.keyDown_eq]
  exact ⟨decodeWord_encode (i := .skp x) rfl, decodeWord_encode (i := .sknp x) rfl,
    ⟨_, rfl, s.skipIf_pcEffect Iff.rfl⟩, ⟨_, rfl, s.skipIf_pcEffect (Bool.not_eq_true' _).to_iff⟩⟩

/-! ### LD VX, K (R207) -/

theorem State.startKeyWait_frame (s : State) (x : Nibble) : Frame [.keyWait] s (s.startKeyWait x) := by
  intro p hp
  have hsame := part_same_refl p s
  cases p with
  | keyWait => exact absurd hp (by decide)
  | _ => exact hsame

/-- Settles O29: the latch is all that is written. -/
theorem keyWaitStarts : Obligations.KeyWaitStarts := fun x s =>
  ⟨decodeWord_encode (i := .ldVxK x) rfl, _, rfl, rfl, rfl, rfl, s.startKeyWait_frame x⟩

/-! ### What reads the keypad (60_exceptions.md R239, R243) -/

/-- Settles O53: with the random byte as it is, another snapshot reaches the next state as that snapshot on the port. -/
theorem keysReadByKeyInstructionsOnly : Obligations.KeysReadByKeyInstructionsOnly := by
  intro i s t k hi h
  obtain ⟨-, hrand⟩ := exec_ports h
  have hexec : exec i (s.sample k s.rand) = sampleOutcome k s.rand (exec i s) := exec_sample (.inr hi) (.inl rfl)
  rw [h] at hexec
  calc exec i { s with keys := k } = .next (t.sample k s.rand) := hexec
    _ = .next { t with keys := k } := by rw [← hrand]; rfl

end Sys2Proof.Machine
end

section
/-! The timers (48_timers.md): the instructions that read and write them, and the host's TICK (60_exceptions.md R240). -/

namespace Sys2Proof.Machine

open Sys2Proof.Safety

theorem frame_of_timers_pc (s : State) (dt st : Byte) (pc : Word) :
    Frame [.timers, .pc] s { s with dt := dt, st := st, pc := pc } := by
  intro p hp
  have hsame := part_same_refl p s
  cases p with
  | timers | pc => exact absurd hp (by decide)
  | _ => exact hsame

/-- A frame may name a part that did not change. -/
theorem frame_mono {changed changed' : List Part} {s t : State} (h : Frame changed s t) (hsub : changed ⊆ changed') :
    Frame changed' s t :=
  fun p hp => h p fun hmem => hp (hsub hmem)

/-- Settles O31: the read writes V[X] alone, each write one timer, and the tone is on while ST is not 0. -/
theorem timerInstructions : Obligations.TimerInstructions := fun x s =>
  ⟨decodeWord_encode (i := .ldVxDt x) rfl, decodeWord_encode (i := .ldDtVx x) rfl, decodeWord_encode (i := .ldStVx x) rfl,
    ⟨_, rfl, s.setV_next_regEffect x s.dt⟩,
    ⟨_, rfl, rfl, rfl, rfl, frame_of_timers_pc s (s.getV x) s.st _⟩,
    ⟨_, rfl, rfl, bne_iff_ne, rfl, rfl, frame_of_timers_pc s s.dt (s.getV x) _⟩⟩

/-! ### TICK (60_exceptions.md R240) -/

theorem toNat_countDown (b : Byte) : (countDown b).toNat = b.toNat - 1 := by
  unfold countDown
  split <;> bv_omega

theorem State.tick_of_halted {s : State} (h : s.faultCode ≠ .none) : s.tick = s.begin :=
  if_pos (bne_iff_ne.2 h)

theorem State.tick_of_not_halted {s : State} (h : s.faultCode = .none) :
    s.tick = { s.begin with dt := countDown s.dt, st := countDown s.st } :=
  if_neg fun hhalted => bne_iff_ne.1 hhalted h

theorem State.tick_frame (s : State) : Frame [.timers] s.begin s.tick := by
  obtain ⟨dt, st, htick⟩ := s.tick_eq
  rw [htick]
  exact frame_erase (p := .pc) (frame_of_timers_pc s.begin dt st s.pc) rfl

/-- Settles O41: a TICK begins as every command does, and only the halt decides whether it counts down. -/
theorem tickCountsDown : Obligations.TickCountsDown := by
  intro s rest hp
  let u := s.takePending rest
  have hframe : Frame [.timers] u.begin u.tick := u.tick_frame
  refine ⟨u.tick, step_of_pending_cons hp, hframe .displayFlag (by decide), fun hf => ?_, fun hf => ?_,
    frame_mono hframe (by decide)⟩
  · rw [State.tick_of_not_halted (s := u) hf]
    exact ⟨toNat_countDown s.dt, toNat_countDown s.st⟩
  · rw [State.tick_of_halted (s := u) hf]
    exact ⟨rfl, rfl⟩

end Sys2Proof.Machine
end

section
/-! Exceptions (60_exceptions.md): an instruction raises the fault that the table of R230 gives it, and no other. -/

namespace Sys2Proof.Machine

open Sys2Proof.Safety

/-- Instruction i raises in s the fault of the table with its word (R231), or keeps the fault record where the table lists none. -/
def FaultsAsTable (i : Instr) (s : State) : Prop :=
  ∃ t, exec i s = .next t ∧
    (tableFault i s = .none → Part.faultRecord.same s t) ∧
    (tableFault i s ≠ .none → FaultEffect s t (tableFault i s) (encode i))

section

variable {i : Instr} {s t : State}

theorem faultsAsTable_of_kept (htable : tableFault i s = .none) (he : exec i s = .next t)
    (hkept : Part.faultRecord.same s t) : FaultsAsTable i s :=
  ⟨t, he, fun _ => hkept, fun hne => absurd htable hne⟩

theorem faultsAsTable_of_raise {code : FaultCode} (hcode : code ≠ .none) (htable : tableFault i s = code)
    (he : exec i s = .next (s.raise code (encode i))) : FaultsAsTable i s := by
  subst htable
  exact ⟨_, he, fun hnone => absurd hnone hcode, fun _ => s.raise_faultEffect _ _⟩

/-- A form that the table lists with code under condition c. -/
theorem faultsAsTable_of_condition {c : Prop} [Decidable c] {code : FaultCode} (hcode : code ≠ .none)
    (htable : tableFault i s = if c then code else .none)
    (hfault : c → exec i s = .next (s.raise code (encode i)))
    (hok : ¬ c → ∃ t, exec i s = .next t ∧ Part.faultRecord.same s t) : FaultsAsTable i s := by
  by_cases hc : c
  · exact faultsAsTable_of_raise hcode (htable.trans (if_pos hc)) (hfault hc)
  · obtain ⟨t, he, hkept⟩ := hok hc
    exact faultsAsTable_of_kept (htable.trans (if_neg hc)) he hkept

end

/-! ### The conditions of the table are the checks that the instructions make -/

section

variable {x n : Nibble} {s : State}

theorem drw_condition_iff :
    0 < n.toNat ∧ s.i.toNat + n.toNat - 1 > 0xFFF ↔ ¬ SpriteInMemory s n.toNat := by
  unfold SpriteInMemory
  omega

/-- A block of n + 1 bytes to be written. -/
theorem store_condition_iff {n : Nat} :
    s.i.toNat + n > 0xFFF ∨ (s.i.toNat < 0x200 ∧ s.cfg.reservedWrite = .fault) ↔ ¬ AccessOk s (n + 1) true := by
  rw [AccessOk, Classical.not_and_iff_not_or_not, ← Nat.add_assoc, Nat.add_sub_cancel, Nat.not_le, and_comm]
  simp only [forall_const, Classical.not_imp, Nat.not_le, gt_iff_lt]

theorem storeRegs_condition_iff :
    s.i.toNat + x.toNat > 0xFFF ∨ (s.i.toNat < 0x200 ∧ s.cfg.reservedWrite = .fault) ∨ loadStoreIndex s x > 0x0FFF ↔
      ¬ (AccessOk s (x.toNat + 1) true ∧ loadStoreIndex s x ≤ 0x0FFF) := by
  rw [← or_assoc, store_condition_iff, Classical.not_and_iff_not_or_not, Nat.not_le]

theorem loadRegs_condition_iff :
    s.i.toNat + x.toNat > 0xFFF ∨ loadStoreIndex s x > 0x0FFF ↔
      ¬ (AccessOk s (x.toNat + 1) false ∧ loadStoreIndex s x ≤ 0x0FFF) := by
  have hread : AccessOk s (x.toNat + 1) false ↔ s.i.toNat + x.toNat ≤ 0xFFF := and_iff_left nofun
  rw [hread, Classical.not_and_iff_not_or_not, Nat.not_le, Nat.not_le]

end

/-! ### The forms that the table lists -/

theorem sys_faultsAsTable (nnn : Addr) (s : State) : FaultsAsTable (.sys nnn) s := by
  refine faultsAsTable_of_condition (by decide) rfl (exec_sys_of_fault nnn) fun hc => ?_
  have hignore : s.cfg.sysMode = .ignore := by
    cases hmode : s.cfg.sysMode with
    | ignore => rfl
    | fault => exact absurd hmode hc
  exact ⟨_, exec_sys_of_ignore nnn hignore, rfl, rfl, rfl⟩

theorem call_faultsAsTable (nnn : Addr) (s : State) : FaultsAsTable (.call nnn) s :=
  faultsAsTable_of_condition (by decide) rfl (exec_call_of_full nnn) fun hc =>
    ⟨_, exec_call_of_lt nnn (by omega), rfl, rfl, rfl⟩

theorem ret_faultsAsTable (s : State) : FaultsAsTable .ret s := by
  refine faultsAsTable_of_condition (by decide) rfl exec_ret_of_empty fun hc => ?_
  obtain ⟨k, hk⟩ : ∃ k, k + 1 = s.sp.val := ⟨s.sp.val - 1, by omega⟩
  exact ⟨_, exec_ret_of_top (by omega) hk, rfl, rfl, rfl⟩

theorem addI_faultsAsTable (x : Nibble) (s : State) : FaultsAsTable (.addI x) s :=
  faultsAsTable_of_condition (by decide) rfl exec_addI_of_gt fun hc =>
    ⟨_, exec_addI_of_le (Nat.le_of_not_lt hc), rfl, rfl, rfl⟩

theorem drw_faultsAsTable (x y n : Nibble) (s : State) : FaultsAsTable (.drw x y n) s :=
  faultsAsTable_of_condition (by decide) rfl (fun hc => exec_drw_of_not_spriteInMemory (drw_condition_iff.1 hc))
    fun hc => ⟨_, exec_drw_of_spriteInMemory (not_not.1 (mt drw_condition_iff.2 hc)), rfl, rfl, rfl⟩

theorem ldB_faultsAsTable (x : Nibble) (s : State) : FaultsAsTable (.ldB x) s := by
  refine faultsAsTable_of_condition (by decide) rfl (fun hc => exec_ldB_of_not_accessOk (store_condition_iff.1 hc))
    fun hc => ⟨_, exec_ldB_of_accessOk (not_not.1 (mt store_condition_iff.2 hc)), ?_⟩
  obtain ⟨-, hframe⟩ := s.storeDigits_next_pc_frame x
  exact hframe .faultRecord (by decide)

theorem storeRegs_faultsAsTable (x : Nibble) (s : State) : FaultsAsTable (.storeRegs x) s := by
  refine faultsAsTable_of_condition (by decide) rfl (fun hc => exec_storeRegs_of_not_ok (storeRegs_condition_iff.1 hc))
    fun hc => ⟨_, exec_storeRegs_of_ok (not_not.1 (mt storeRegs_condition_iff.2 hc)), ?_⟩
  obtain ⟨-, hframe⟩ := State.storeFrom_next_pc_frame s.i.toNat (x.toNat + 1) s (BitVec.ofNat 16 (loadStoreIndex s x))
  exact hframe .faultRecord (by decide)

theorem loadRegs_faultsAsTable (x : Nibble) (s : State) : FaultsAsTable (.loadRegs x) s := by
  refine faultsAsTable_of_condition (by decide) rfl (fun hc => exec_loadRegs_of_not_ok (loadRegs_condition_iff.1 hc))
    fun hc => ⟨_, exec_loadRegs_of_ok (not_not.1 (mt loadRegs_condition_iff.2 hc)), ?_⟩
  obtain ⟨-, hframe⟩ := State.loadFrom_next_pc_frame s.i.toNat (x.toNat + 1) s (BitVec.ofNat 16 (loadStoreIndex s x))
  exact hframe .faultRecord (by decide)

/-! ### The other forms -/

theorem State.logicFlag_faultRecord (s : State) : Part.faultRecord.same s s.logicFlag := by
  unfold State.logicFlag
  split <;> exact ⟨rfl, rfl, rfl⟩

/-- Settles O45: each form that the table lists checks its condition before it writes, and the others write no fault record. -/
theorem faultsAreThoseOfTheTable : Obligations.FaultsAreThoseOfTheTable := by
  intro i s
  cases i with
  | sys nnn => exact sys_faultsAsTable nnn s
  | call nnn => exact call_faultsAsTable nnn s
  | ret => exact ret_faultsAsTable s
  | addI x => exact addI_faultsAsTable x s
  | drw x y n => exact drw_faultsAsTable x y n s
  | ldB x => exact ldB_faultsAsTable x s
  | storeRegs x => exact storeRegs_faultsAsTable x s
  | loadRegs x => exact loadRegs_faultsAsTable x s
  | orReg x y | andReg x y | xorReg x y => exact faultsAsTable_of_kept rfl rfl (s.setV x _).logicFlag_faultRecord
  | cls | jp | seImm | sneImm | seReg | sneReg | jpOffset | ldImm | addImm | ldReg | addReg | subReg | shr | subn | shl
  | ldI | ldF | rnd | skp | sknp | ldVxK | ldVxDt | ldDtVx | ldStVx =>
    exact faultsAsTable_of_kept rfl rfl ⟨rfl, rfl, rfl⟩

end Sys2Proof.Machine
end

section
/-! POWER_ON, RESET and LOAD (70_reset_and_hazards.md): the registers are fresh after each, and memory is what tells them apart. -/

namespace Sys2Proof.Machine

open Sys2Proof.Safety

/-- Settles O37: the core is fresh, and memory lists nothing, so every byte reads as its power-on content. -/
theorem powerOnCreatesState : Obligations.PowerOnCreatesState := fun s _ hp =>
  ⟨_, step_of_pending_cons hp, State.powerOnCommand_fresh _,
    fun _ _ => powerOnByte_glyph s.cfg.fontBase, fun _ => powerOnByte_outside_font s.cfg.fontBase, rfl⟩

theorem State.resetCommand_idempotent (s : State) : s.resetCommand.resetCommand = s.resetCommand := rfl

/-- Settles O38: RESET writes fixed values and neither reads nor writes memory. -/
theorem resetKeepsMemory : Obligations.ResetKeepsMemory := by
  intro s rest hp
  let t := (s.takePending rest).resetCommand
  refine ⟨t, step_of_pending_cons hp, State.resetCommand_fresh _, fun _ => rfl, rfl, ?_⟩
  calc step { t with pending := .reset :: rest } = .next t.resetCommand :=
      step_of_pending_cons (c := .reset) (rest := rest) rfl
    _ = .next t := congrArg _ (State.resetCommand_idempotent _)

/-! ### LOAD (R262, R263) -/

section

variable {s : State} {rom : List Byte}

theorem State.loadCommand_of_fits (h : rom.length ≤ 3584) :
    s.loadCommand rom = s.powerOnCommand.writeBytes 0x200 rom :=
  if_pos h

theorem State.loadCommand_of_too_long (h : 3584 < rom.length) :
    s.loadCommand rom = s.begin.raise .outOfSpace 0x0000 :=
  if_neg (Nat.not_le.2 h)

theorem State.loadCommand_fresh (h : rom.length ≤ 3584) :
    FreshCore (s.loadCommand rom) ∧ (s.loadCommand rom).report = .none := by
  obtain ⟨m, hm⟩ := s.powerOnCommand.writeBytes_eq 0x200 rom
  rw [State.loadCommand_of_fits h, hm]
  exact ⟨s.powerOnCommand_fresh, rfl⟩

/-- The memory that the ROM is copied to is the canonical one of POWER_ON, so its bytes read back. -/
theorem State.loadCommand_readByte_rom (h : rom.length ≤ 3584) {j : Nat} (hj : j < rom.length) :
    (s.loadCommand rom).readByte (0x200 + j) = rom[j] := by
  have hend : 0x200 + rom.length ≤ Config.memSize := by rw [Config.memSize]; omega
  rw [State.loadCommand_of_fits h]
  exact State.writeBytes_readByte_inside (s := s.powerOnCommand) Memory.wf_nil hend hj

theorem State.loadCommand_readByte_outside_rom (h : rom.length ≤ 3584) {a : Nat}
    (ha : a < 0x200 ∨ 0x200 + rom.length ≤ a) : (s.loadCommand rom).readByte a = powerOnByte s.cfg.fontBase a := by
  rw [State.loadCommand_of_fits h]
  exact State.writeBytes_readByte_outside s.powerOnCommand 0x200 rom ha

end

/-- Settles O39: the ROM is all that tells the state from that of POWER_ON, and the font ends at or below 0x200. -/
theorem loadCopiesRom : Obligations.LoadCopiesRom := by
  intro s rom rest hp hfits
  let u := s.takePending rest
  have hfont : s.cfg.fontBase.val + 80 ≤ 0x200 := by omega
  obtain ⟨hfresh, hreport⟩ := State.loadCommand_fresh (s := u) hfits
  refine ⟨u.loadCommand rom, step_of_pending_cons hp, hfresh, fun _ => State.loadCommand_readByte_rom hfits,
    fun d r hd hr => ?font, fun a ha => ?zero, hreport, (u.loadCommand_hostKept rom).params⟩
  case font =>
    have hlow : s.cfg.fontBase.val + 5 * d + r < 0x200 := by omega
    exact (State.loadCommand_readByte_outside_rom hfits (.inl hlow)).trans (powerOnByte_glyph s.cfg.fontBase hd hr)
  case zero =>
    have hrom : a < 0x200 ∨ 0x200 + rom.length ≤ a := by omega
    have hglyphs : a < s.cfg.fontBase.val ∨ s.cfg.fontBase.val + 80 ≤ a := by omega
    exact (State.loadCommand_readByte_outside_rom hfits hrom).trans (powerOnByte_outside_font s.cfg.fontBase hglyphs)

/-- Settles O40: the length is checked before anything is written. -/
theorem loadTooLongFaults : Obligations.LoadTooLongFaults := by
  intro s rom rest hp hlong
  have hload : (s.takePending rest).loadCommand rom = (commandStart s rest).raise .outOfSpace 0x0000 :=
    State.loadCommand_of_too_long hlong
  exact ⟨_, (step_of_pending_cons hp).trans (congrArg Host.Outcome.next hload), State.raise_faultEffect _ _ _⟩

end Sys2Proof.Machine
end
